-- ==== Sys2Proof/Word.lean ====
section
/-! DEFINITION. The two word types of the engine: a byte and a `U64` (00_scope.md R10). -/

namespace Sys2Proof

/-- A byte: 8 bits (R10). -/
abbrev Byte := BitVec 8

/-- A `U64`: 64 bits, all arithmetic modulo 2^64 (R10, R12). -/
abbrev Word := BitVec 64

end Sys2Proof
end

