-- ==== Sys2Proof/Syntax.lean ====
section
/-! DEFINITION. The thirteen commands of 30_encoding.md R72, one constructor per row of spec/opcode_table.json. -/

namespace Sys2Proof

/-- A command. Every operand but the count of CASTEP is implicit (R71). -/
inductive Instr where
  /-- NOP: nothing (R155). -/
  | nop
  /-- CLEAR: all registers to their reset values (R156). -/
  | clear
  /-- SEED: the seed array into the working state (R93). -/
  | seed
  /-- CASTEP n: `n` cellular-automaton steps (R94); `n` is the unsigned `imm8` of format I (R71). -/
  | castep (n : Nat)
  /-- INIT: the State Initializer (R95). -/
  | init
  /-- PADBLK: the next padded block (R102). -/
  | padblk
  /-- ABSORB: the block into the first half of the working state (R147). -/
  | absorb
  /-- RCGEN: the round constant (R113). -/
  | rcgen
  /-- SBOX: the substitution of `X` (R123). -/
  | sbox
  /-- WSTEP: one word-step (R133). -/
  | wstep
  /-- ROUND: word-steps to the end of the round (R134). -/
  | round
  /-- PERMUTE: the Permutation Engine (R135). -/
  | permute
  /-- HASH: the whole hash (R148). -/
  | hash
deriving DecidableEq, Repr

end Sys2Proof
end

