-- ==== Sys2Proof/WellFormed.lean ====
section
/-! DEFINITION. Which terms of `Instr` are commands: 30_encoding.md R71 and R77 bound the one operand. -/

namespace Sys2Proof

/-- A command is well formed when its operand fits its field: the count of CASTEP is 0 to 255 (R71, R77). -/
def Instr.wellFormed (i : Instr) : Bool :=
  match i with
  | .castep n => decide (n ≤ 255)
  | .nop | .clear | .seed | .init | .padblk | .absorb | .rcgen | .sbox | .wstep | .round | .permute | .hash => true

end Sys2Proof
end

