-- ==== Sys2Proof/Decode.lean ====
section
/-! DEFINITION. The decoder of a 64-bit value written to `CMD` (30_encoding.md R70 to R76), total, rejecting by name;
the encoder beside it; and the decoder as the host of this row calls it. -/

namespace Sys2Proof

/-- Why a value written to `CMD` is illegal (R73, R74). Every reason raises the same fault. -/
inductive Illegal where
  /-- Bits 63:32 are not zero. -/
  | highBits
  /-- Bits 23:8 (`rsv`) are not zero. -/
  | reservedField
  /-- Bits 31:24 are none of the thirteen `op` values. -/
  | unassignedOpcode
  /-- A format Z command with bits 7:0 not zero. -/
  | immediateNotZero
deriving DecidableEq, Repr

/-- Field `hi` of R70: bits 63:32. -/
def fieldHi (d : Word) : BitVec 32 := d.extractLsb' 32 32
/-- Field `op` of R70: bits 31:24. -/
def fieldOp (d : Word) : Byte := d.extractLsb' 24 8
/-- Field `rsv` of R70: bits 23:8. -/
def fieldRsv (d : Word) : BitVec 16 := d.extractLsb' 8 16
/-- Field `imm8` of R70: bits 7:0. -/
def fieldImm8 (d : Word) : Byte := d.extractLsb' 0 8

/-- The twelve format Z rows of the opcode map (R72). -/
def formatZ : List (Byte × Instr) :=
  [(0x00#8, .nop), (0x01#8, .clear), (0x10#8, .seed), (0x12#8, .init), (0x20#8, .padblk), (0x21#8, .absorb),
   (0x30#8, .rcgen), (0x31#8, .sbox), (0x32#8, .wstep), (0x33#8, .round), (0x34#8, .permute), (0x40#8, .hash)]

/-- The one format I opcode, CASTEP (R72). -/
def opCastep : Byte := 0x11#8

/-- The command a value written to `CMD` stands for (R73), or why it is none. Decoding looks at nothing but the
value (R75). -/
def decode (d : Word) : Except Illegal Instr :=
  if fieldHi d ≠ 0 then .error .highBits
  else if fieldRsv d ≠ 0 then .error .reservedField
  else if fieldOp d = opCastep then .ok (.castep (fieldImm8 d).toNat)
  else
    match formatZ.find? (fun row => row.1 == fieldOp d) with
    | none => .error .unassignedOpcode
    | some row => if fieldImm8 d ≠ 0 then .error .immediateNotZero else .ok row.2

/-- The `op` value of a command (R72). -/
def Instr.opcode (i : Instr) : Nat :=
  match i with
  | .nop => 0x00
  | .clear => 0x01
  | .seed => 0x10
  | .castep _ => 0x11
  | .init => 0x12
  | .padblk => 0x20
  | .absorb => 0x21
  | .rcgen => 0x30
  | .sbox => 0x31
  | .wstep => 0x32
  | .round => 0x33
  | .permute => 0x34
  | .hash => 0x40

/-- The operand of a command as its `imm8` field holds it (R70, R71). -/
def Instr.immediate (i : Instr) : Nat :=
  match i with
  | .castep n => n
  | .nop | .clear | .seed | .init | .padblk | .absorb | .rcgen | .sbox | .wstep | .round | .permute | .hash => 0

/-- The value to write to `CMD` for a well-formed command (R72; CASTEP n is `0x11000000 + n`, R77). -/
def encode (i : Instr) : Word :=
  BitVec.ofNat 64 (i.opcode * 2 ^ 24 + i.immediate)

/-- The `CMD` write that carries a table word: the word's bits, every higher bit of the 64-bit datum zero (R70).
There is no instruction byte order: the engine fetches no code (20_memory.md R51). -/
def tableDatum (nbits w : Nat) : Word :=
  BitVec.ofNat 64 (w % 2 ^ nbits)

/-- The command the decoder reads from a table word of `nbits` bits. -/
def decodeTableWord (nbits w : Nat) : Option Instr :=
  match decode (tableDatum nbits w) with
  | .ok i => some i
  | .error _ => none

end Sys2Proof
end

