-- ==== Sys2Proof/Config.lean ====
section
/-! DEFINITION. What an engine fixes when it is built (00_scope.md R8; 10_state.md R40), with the spec's defaults,
and the one free value: what the spec leaves open is a constant here that has no body. -/

namespace Sys2Proof

/-- `BYTE_ORDER` (R8): how 8 state bytes form a 64-bit word (10_state.md R22). -/
inductive ByteOrder where
  | le
  | be
deriving DecidableEq, Repr

/-- `CA_EDGE` (R8): what cells 0 and 127 hold after a cellular-automaton step (40_initializer.md R91). -/
inductive CaEdge where
  | zero
  | carry
deriving DecidableEq, Repr

/-- A function from 128 bytes to `U64` written down as data, so that an engine with it is a value of `Params`
(assumption 2). Its value is `evalHash` of Machine/RoundConstant.lean; every total function is the value of some term
(`evalHash_onto` of Laws/RoundConstant.lean). -/
inductive HashTerm where
  /-- The word `w`. -/
  | const (w : Word)
  /-- Byte `k` of the array, zero-extended. -/
  | byte (k : Fin 128)
  /-- The sum modulo 2^64. -/
  | add (t u : HashTerm)
  /-- The product modulo 2^64. -/
  | mul (t u : HashTerm)
  /-- The bitwise exclusive or. -/
  | xor (t u : HashTerm)
  /-- `t` where byte `k` of the array is `b`, otherwise `u`. -/
  | ifByte (k : Fin 128) (b : Byte) (t u : HashTerm)
deriving DecidableEq, Repr

/-- `STATE_HASH` (R8): the default `polyhash31` (42_round_constant.md R110), or any other total function from
128 bytes to `U64`, given by a term (assumption 2). -/
inductive StateHash where
  | polyhash31
  | other (t : HashTerm)
deriving DecidableEq, Repr

/-- `SBOX_SHIFT` (R8): the kind of right shift in the S-box (43_sbox.md R120). -/
inductive SboxShift where
  | arith
  | logical
deriving DecidableEq, Repr

/-- The parameters of 00_scope.md R8. -/
structure Params where
  byteOrder  : ByteOrder
  caEdge     : CaEdge
  stateHash  : StateHash
  byteSigned : Bool
  sboxShift  : SboxShift
  msgBytes   : Nat
deriving DecidableEq, Repr

/-- The default of every parameter (R8, decisions D1 to D6). -/
def Params.defaults : Params :=
  { byteOrder := .le, caEdge := .zero, stateHash := .polyhash31, byteSigned := false,
    sboxShift := .arith, msgBytes := 4096 }

/-- The values R8 allows: `MSG_BYTES` is a multiple of 8 with 8 ≤ `MSG_BYTES` ≤ 2^32; every value of the other
parameters is allowed. -/
def Params.wf (p : Params) : Bool :=
  p.msgBytes % 8 == 0 && decide (8 ≤ p.msgBytes) && decide (p.msgBytes ≤ 2 ^ 32)

/-- FREE VALUE (assumption 3). `Config.msgUnspecified draw a` is what byte `a` of the message memory holds before the
host has written it, in the power-up numbered `draw` (10_state.md R41, 70_reset_and_hazards.md R181, U9). -/
opaque Config.msgUnspecified : Nat → Nat → Byte

end Sys2Proof
end

