-- ==== Sys2Proof/Machine/State.lean ====
section
/-! DEFINITION. The state of the machine as plain data: the complete architectural state of 10_state.md R20, the
model's own fields beside it, the reasons a step could stop, the state after reset, and one named update per field. -/

namespace Sys2Proof.Machine

/-- `STATUS.ERR` (10_state.md R35): the four fault codes of 60_exceptions.md R160 and 0 for none. Codes 5 to 15 are
never produced (93_implementation_defined.md U14), so the type has no value for them (assumption 13). -/
inductive ErrCode where
  /-- 0: no fault pending. -/
  | none
  /-- 1: `LEN = 0` when the command needs the initializer. -/
  | emptyInput
  /-- 2: `LEN > MSG_BYTES` when the command needs the message. -/
  | lengthRange
  /-- 3: `BLKIDX ≥ NBLK`. -/
  | blockRange
  /-- 4: the value written to `CMD` is not legal. -/
  | illegalCommand
deriving DecidableEq, Repr

/-- What the outside world does to the engine (00_scope.md R6, 20_memory.md R50, 70_reset_and_hazards.md R180).
`addr` is a byte offset from the engine's base; the spec states no width for it (assumption 10). -/
inductive Event where
  /-- `HostRead(addr)`. -/
  | read (addr : Nat)
  /-- `HostWrite(addr, data)`. -/
  | write (addr : Nat) (data : Word)
  /-- A reset from outside the engine, or a power-up. -/
  | reset
deriving DecidableEq, Repr

/-- What the port answers to a transaction (20_memory.md R50). A bus error carries no data (U10, assumption 9). -/
inductive Response where
  /-- (`ok`, data) of a read. -/
  | data (d : Word)
  /-- `ok` of a write. -/
  | ok
  /-- `buserror` of either. -/
  | busError
deriving DecidableEq, Repr

/-- The message memory: the bytes the host has written since reset, as (address, byte) pairs at strictly rising
addresses. A byte not listed has no value of its own: it reads as a free value (assumption 3). -/
abbrev Memory := List Host.Cell

/-- The canonical form: addresses strictly rise. An unlisted byte reads as no listed value, so no entry can be
redundant. -/
abbrev Memory.wf (m : Memory) : Prop := m.Pairwise (fun c e => c.1 < e.1)

/-- The state. The first group is the complete architectural state of 10_state.md R20; the second is the model's
own. -/
structure State where
  /-- `S[0..127]`, the working state (R21); its word view `W[0..15]` is R22. -/
  S      : Vector Byte 128
  /-- `BLK[0..63]`, the block buffer (R25). -/
  BLK    : Vector Byte 64
  /-- `LEN` (R27). -/
  LEN    : Word
  /-- `BLKIDX` (R28). -/
  BLKIDX : Word
  /-- `SEQ.RND` (R29). -/
  RND    : BitVec 5
  /-- `SEQ.IDX` (R29). -/
  IDX    : BitVec 4
  /-- `RC` (R31). -/
  RC     : Word
  /-- `X` (R32). -/
  X      : Word
  /-- `STATUS.DONE` (R34). -/
  DONE   : Bool
  /-- `STATUS.ERR` (R35). -/
  ERR    : ErrCode
  /-- `MSG` (R37): the bytes written since reset. -/
  MSG    : Memory
  /-- Model: which assignment of the unspecified `MSG` bytes this power-up has (assumption 4). -/
  msgDraw   : Nat
  /-- Model: the build-time parameters (00_scope.md R8; R40 says no command or access changes them; assumption 1). -/
  params    : Params
  /-- Model: the host events still to come, the next one first (assumption 5). -/
  host      : List Event
  /-- Model: the responses given so far, the oldest first (70_reset_and_hazards.md R191; assumption 5). -/
  responses : List Response
deriving DecidableEq, Repr

/-- Why a step could stop with a fault: for no reason. The engine never halts and its step is total
(70_reset_and_hazards.md R191): its four faults are values of `STATUS.ERR` and a bus error is a response, all of them
next states (assumption 20). -/
inductive Fault where
deriving DecidableEq, Repr

/-- Why a step could be refused. -/
inductive Refusal where
  /-- Raised by an arm of `exec` for a command that has no meaning in the model yet; safe. No arm raises it: every
  command has its meaning. -/
  | notModelled (mnemonic : String)
deriving DecidableEq, Repr

/-- The state after reset of an engine built with the parameters `p`, in the power-up numbered `draw`, with the host
about to do `events` (10_state.md R41, 70_reset_and_hazards.md R180). -/
def State.resetWith (p : Params) (draw : Nat) (events : List Event) : State :=
  { S := Vector.replicate 128 0#8
    BLK := Vector.replicate 64 0#8
    LEN := 0#64
    BLKIDX := 0#64
    RND := 0#5
    IDX := 0#4
    RC := 0#64
    X := 0#64
    DONE := false
    ERR := .none
    MSG := []
    msgDraw := draw
    params := p
    host := events
    responses := [] }

/-- The machine right after reset, with the default parameters (R8, R41); the host has issued nothing yet. -/
def State.reset : State := State.resetWith Params.defaults 0 []

/-! One update per field. -/

/-- Replace the working state. -/
def State.withS (s : State) (v : Vector Byte 128) : State := { s with S := v }
/-- Replace the block buffer. -/
def State.withBLK (s : State) (v : Vector Byte 64) : State := { s with BLK := v }
/-- Replace `LEN`. -/
def State.withLEN (s : State) (v : Word) : State := { s with LEN := v }
/-- Replace `BLKIDX`. -/
def State.withBLKIDX (s : State) (v : Word) : State := { s with BLKIDX := v }
/-- Replace `SEQ`, both fields. -/
def State.withSEQ (s : State) (r : BitVec 5) (i : BitVec 4) : State := { s with RND := r, IDX := i }
/-- Replace `RC`. -/
def State.withRC (s : State) (v : Word) : State := { s with RC := v }
/-- Replace `X`. -/
def State.withX (s : State) (v : Word) : State := { s with X := v }
/-- Replace `STATUS.DONE`. -/
def State.withDONE (s : State) (b : Bool) : State := { s with DONE := b }
/-- Replace `STATUS.ERR`. -/
def State.withERR (s : State) (e : ErrCode) : State := { s with ERR := e }
/-- Replace the written part of `MSG`. -/
def State.withMSG (s : State) (m : Memory) : State := { s with MSG := m }
/-- Replace the events to come. -/
def State.withHost (s : State) (es : List Event) : State := { s with host := es }
/-- Append a response. -/
def State.respond (s : State) (r : Response) : State := { s with responses := s.responses ++ [r] }

end Sys2Proof.Machine
end

