-- ==== Sys2Proof/Machine/Flags.lean ====
section
/-! DEFINITION. The flags of the engine, `DONE` and `ERR`, and the layouts of the two registers with fields, `STATUS`
(10_state.md R33) and `SEQ` (R29). There are no other flags (R33). -/

namespace Sys2Proof.Machine

/-- The 4-bit code of a fault (60_exceptions.md R160). -/
def ErrCode.code (e : ErrCode) : BitVec 4 :=
  match e with
  | .none => 0#4
  | .emptyInput => 1#4
  | .lengthRange => 2#4
  | .blockRange => 3#4
  | .illegalCommand => 4#4

/-- `STATUS` as the port reads it (R33): `DONE` in bit 0, `ERR` in bits 7:4, every other bit 0. -/
def State.statusWord (s : State) : Word :=
  0#56 ++ s.ERR.code ++ 0#3 ++ BitVec.ofBool s.DONE

/-- `SEQ` as the port reads it (R29): `IDX` in bits 3:0, `RND` in bits 8:4, bits 63:9 read as 0. -/
def State.seqWord (s : State) : Word :=
  0#55 ++ s.RND ++ s.IDX

/-- A host write of `SEQ` (R29, R30): `IDX <- data[3:0]`, `RND <- data[8:4]`, bits 63:9 ignored. -/
def State.writeSeq (s : State) (d : Word) : State :=
  s.withSEQ (d.extractLsb' 4 5) (d.extractLsb' 0 4)

/-- `DONE <- 0` (R34). -/
def State.clearDone (s : State) : State := s.withDONE false

/-- `DONE <- 1` (R34). -/
def State.setDone (s : State) : State := s.withDONE true

end Sys2Proof.Machine
end

