-- ==== Sys2Proof/Machine/Bits.lean ====
section
/-! DEFINITION. The operators on `U64` of 00_scope.md R11 and R13 that Lean does not already name. Bitwise `^`, `|`, `&`
and wraparound `+`, `*` are `BitVec`'s own. -/

namespace Sys2Proof.Machine

/-- `shl64(x, n) = (x * 2^n) mod 2^64` (R11). -/
def shl64 (x : Word) (n : Nat) : Word := x <<< n

/-- `lsr64(x, n) = floor(x / 2^n)` (R11). -/
def lsr64 (x : Word) (n : Nat) : Word := x >>> n

/-- `asr64(x, n)` (R11): the logical shift, with the top `n` bits ones when bit 63 is one. -/
def asr64 (x : Word) (n : Nat) : Word :=
  if x.getLsbD 63 then lsr64 x n ||| shl64 (BitVec.allOnes 64) (64 - n) else lsr64 x n

/-- `rotl64(x, n) = shl64(x, n) | lsr64(x, 64 - n)` for 1 ≤ n ≤ 63 (R11). -/
def rotl64 (x : Word) (n : Nat) : Word := shl64 x n ||| lsr64 x (64 - n)

/-- Byte `k` of a word: bits `8k+7` to `8k` (R11). -/
def byteOf (x : Word) (k : Nat) : Byte := x.extractLsb' (8 * k) 8

/-- `le64(b0..b7)`: the sum of `b_k * 2^(8k)` (R13). -/
def le64 (b : Fin 8 → Byte) : Word :=
  b 7 ++ b 6 ++ b 5 ++ b 4 ++ b 3 ++ b 2 ++ b 1 ++ b 0

/-- `be64(b0..b7)`: the sum of `b_k * 2^(8(7-k))` (R13). -/
def be64 (b : Fin 8 → Byte) : Word := le64 (fun k => b k.rev)

/-- `bswap64(x)`: the value whose byte `k` is byte `7 - k` of `x` (R11). -/
def bswap64 (x : Word) : Word := le64 (fun k => byteOf x (7 - k.val))

/-- `zext_64(b)` (R13). -/
def zext64 (b : Byte) : Word := b.setWidth 64

/-- `sext_64(b)` (R13). -/
def sext64 (b : Byte) : Word := b.signExtend 64

/-- `ext_64(b)` (R13): `sext_64` when `BYTE_SIGNED`, else `zext_64`. -/
def ext64 (signed : Bool) (b : Byte) : Word := if signed then sext64 b else zext64 b

end Sys2Proof.Machine
end

