-- ==== Sys2Proof/Machine/Constants.lean ====
section
/-! DEFINITION. The numeric literals of the source, each in one definition (00_scope.md R9; 93_implementation_defined.md
U8: normative as printed, unaudited; assumption 18), and the fixed sizes of R7 that are loop counts. -/

namespace Sys2Proof.Machine

/-- `K_GOLD` (R9): round-constant seed, S-box step 1. -/
def K_GOLD : Word := 0x9E3779B97F4A7C15#64
/-- `K_MIX` (R9): round-constant byte multiply, S-box step 4. -/
def K_MIX : Word := 0xA3B195354A39B70D#64
/-- `K_LCGA` (R9): padding fill, round-constant closing rounds. -/
def K_LCGA : Word := 0x41C64E6D#64
/-- `K_LCGC` (R9): round-constant closing rounds. -/
def K_LCGC : Word := 0x3039#64
/-- `K_SMASK` (R9): S-box step 3, a 36-bit mask. -/
def K_SMASK : Word := 0xD6E8FEB8A#64
/-- `K_PMUL` (R9): permutation multiply. -/
def K_PMUL : Word := 0x5DEECE66D#64

/-- 37: seed multiplier (40_initializer.md R90). -/
abbrev seedMul : Nat := 37
/-- 31: marker multiplier (41_padder.md R100). -/
abbrev markerMul : Nat := 31
/-- 0x80: marker (R100). -/
abbrev markerBit : Byte := 0x80#8
/-- 17: last-byte multiplier (R100). -/
abbrev lastMul : Nat := 17
/-- 251: last-byte modulus (R100). -/
abbrev lastMod : Nat := 251
/-- 0x01: last-byte term (R100). -/
abbrev lastBit : Byte := 0x01#8
/-- 31: multiplier of `polyhash31` (42_round_constant.md R110). -/
abbrev polyMul : Word := 31#64
/-- 13: period of the byte loop's rotation amounts (R111). -/
abbrev rcRotPeriod : Nat := 13
/-- 3: least rotation amount of the byte loop (R111). -/
abbrev rcRotLeast : Nat := 3
/-- 17: rotation amount of a closing round (R111). -/
abbrev closingRot : Nat := 17
/-- 8: closing rounds (R111). -/
abbrev closingRounds : Nat := 8
/-- 7: left shift of S-box step 1 (43_sbox.md R120). -/
abbrev sboxShl : Nat := 7
/-- 13: rotation of S-box step 2 (R120). -/
abbrev sboxRot : Nat := 13
/-- 11: right shift of S-box step 3 (R120). -/
abbrev sboxShr : Nat := 11
/-- 7: period of the word-step's rotation amounts (44_permutation.md R130). -/
abbrev wsRotPeriod : Nat := 7
/-- 5: least rotation amount of the word-step (R130). -/
abbrev wsRotLeast : Nat := 5
/-- 3: left shift of `temp` in the word-step (R130). -/
abbrev tempShl : Nat := 3
/-- 61: right shift of `temp` in the word-step (R130). -/
abbrev tempShr : Nat := 61
/-- 64: cellular-automaton steps of the initializer (40_initializer.md R92). -/
abbrev caSteps : Nat := 64
/-- 32: rounds of a permutation (R132). -/
abbrev rounds : Nat := 32
/-- 16: word-steps of a round (R132). -/
abbrev wordsPerRound : Nat := 16
/-- 64: bytes of a block (00_scope.md R7). -/
abbrev blockBytes : Nat := 64

end Sys2Proof.Machine
end

