-- ==== Sys2Proof/Machine/Operands.lean ====
section
/-! DEFINITION. The operand forms: the byte lanes of the port (20_memory.md R51), the word view of the working state
(10_state.md R22), the quantities derived from `LEN` (R38), the engine's own read of the message memory (R56), the
digest view (R23). Every operand of every command but the count of CASTEP is one of these or a whole register
(30_encoding.md R71). -/

namespace Sys2Proof.Machine

/-- Group `j` of eight bytes of a byte array in the lane order of the port (R51):
`le64(B[8j], B[8j+1], ..., B[8j+7])`. -/
def lanes {n : Nat} (B : Vector Byte n) (j : Nat) (h : 8 * j + 7 < n) : Word :=
  le64 (fun k => B[8 * j + k.val])

/-- `B[8j+k] <- d[8k+7:8k]` for k = 0..7 (R51). -/
def setLanes {n : Nat} (B : Vector Byte n) (j : Nat) (d : Word) : Vector Byte n :=
  Vector.ofFn (fun i => if i.val / 8 = j then byteOf d (i.val % 8) else B[i])

/-- `W[m]` (R22): the eight bytes `S[8m..8m+7]` in the byte order `BYTE_ORDER`. -/
def wordAt (o : ByteOrder) (S : Vector Byte 128) (m : Fin 16) : Word :=
  match o with
  | .le => le64 (fun k => S[8 * m.val + k.val])
  | .be => be64 (fun k => S[8 * m.val + k.val])

/-- The byte of `v` that `W[m] <- v` writes at offset `k` of the word (R22). -/
def wordByte (o : ByteOrder) (v : Word) (k : Nat) : Byte :=
  match o with
  | .le => byteOf v k
  | .be => byteOf v (7 - k)

/-- `W[m] <- v` (R22). -/
def setWordAt (o : ByteOrder) (S : Vector Byte 128) (m : Fin 16) (v : Word) : Vector Byte 128 :=
  Vector.ofFn (fun i => if i.val / 8 = m.val then wordByte o v (i.val % 8) else S[i])

/-- `NBLK = floor(LEN / 64) + 1` (R38). -/
def nblk (L : Nat) : Nat := L / blockBytes + 1

/-- `NEWLEN = 64 * NBLK` (R38). -/
def newlen (L : Nat) : Nat := blockBytes * nblk L

/-- The byte the host last wrote at offset `a`, if it has written one since reset. -/
def Memory.read? : Memory → Nat → Option Byte
  | [], _ => none
  | (k, b) :: rest, a => if k = a then some b else Memory.read? rest a

/-- `MSG[a]` = `MemRead(a, 1)` (R13, R56): the byte last written, or the free value of a byte the host has not written
since reset (10_state.md R41, 70_reset_and_hazards.md R181). -/
def State.readMsg (s : State) (a : Nat) : Byte :=
  match s.MSG.read? a with
  | some b => b
  | none => Config.msgUnspecified s.msgDraw a

/-- The digest view `S[0..63]` (R23). -/
def digestOf (S : Vector Byte 128) : Vector Byte 64 := Vector.ofFn (fun k => S[k.val]'(by omega))

/-- The word index `SEQ.IDX` points at (R29). -/
def State.wordIndex (s : State) : Fin 16 := ⟨s.IDX.toNat, s.IDX.isLt⟩

end Sys2Proof.Machine
end

