-- ==== Sys2Proof/Machine/Ops.lean ====
section
/-! DEFINITION. The operations the commands share: the host's store into the message memory, fault entry
(60_exceptions.md R161) and the way out of a fault (R163), reset (70_reset_and_hazards.md R180), the length checks
(R160), the acceptance of a command (30_encoding.md R75) and the loop of R13. -/

namespace Sys2Proof.Machine

/-- The memory with byte `b` at offset `a` (R13 `MemWrite`), in canonical form. -/
def Memory.write : Memory → Nat → Byte → Memory
  | [], a, b => [(a, b)]
  | (k, c) :: rest, a, b =>
    if a < k then (a, b) :: (k, c) :: rest
    else if a = k then (a, b) :: rest
    else (k, c) :: Memory.write rest a b

/-- The memory with the bytes of a list at offsets `a`, `a + 1`, and so on. -/
def Memory.writeBytes (m : Memory) (a : Nat) : List Byte → Memory
  | [] => m
  | b :: bs => Memory.writeBytes (m.write a b) (a + 1) bs

/-- The eight bytes of a port datum, the byte of lane 0 first (20_memory.md R51). -/
def laneBytes (d : Word) : List Byte :=
  [byteOf d 0, byteOf d 1, byteOf d 2, byteOf d 3, byteOf d 4, byteOf d 5, byteOf d 6, byteOf d 7]

/-- TAKING A FAULT (60_exceptions.md R161): `STATUS.ERR <- code`, `STATUS.DONE` is 0, nothing else changes; nothing is
saved and control goes nowhere. -/
def State.raiseFault (s : State) (e : ErrCode) : State := (s.withERR e).withDONE false

/-- Every register at its reset value, `MSG` as it is: what CLEAR does (46_control.md R156) and what leaves a pending
fault (60_exceptions.md R163). -/
def State.clearRegisters (s : State) : State :=
  { s with
    S := Vector.replicate 128 0#8
    BLK := Vector.replicate 64 0#8
    LEN := 0#64
    BLKIDX := 0#64
    RND := 0#5
    IDX := 0#4
    RC := 0#64
    X := 0#64
    DONE := false
    ERR := .none }

/-- RESET (R180, R181): every register at its reset value and every byte of `MSG` an arbitrary value, not necessarily
the one it held before. -/
def State.resetEngine (s : State) : State :=
  { s.clearRegisters with MSG := [], msgDraw := s.msgDraw + 1 }

/-- The length checks of the commands that run the initializer (R160, R164): SEED, INIT, HASH. -/
def State.initFault (s : State) : Option ErrCode :=
  if s.LEN = 0#64 then some .emptyInput
  else if s.params.msgBytes < s.LEN.toNat then some .lengthRange
  else none

/-- The checks of PADBLK (R160, R164): the length first, then the block index. -/
def State.padFault (s : State) : Option ErrCode :=
  if s.params.msgBytes < s.LEN.toNat then some .lengthRange
  else if nblk s.LEN.toNat ≤ s.BLKIDX.toNat then some .blockRange
  else none

/-- A command that checks before its first write (R161): the fault, or the command's effect. -/
def State.guarded (s : State) (fault : Option ErrCode) (effect : State → State) : State :=
  match fault with
  | some e => s.raiseFault e
  | none => effect s

/-- The acceptance of a command other than NOP and CLEAR (30_encoding.md R75, 60_exceptions.md R162): while a fault is
pending the command is ignored and no state changes; otherwise `DONE <- 0` before anything else, then the command's
effect. -/
def accept (s : State) (effect : State → State) : Host.Outcome State Fault Refusal :=
  if s.ERR = .none then .next (effect s.clearDone) else .next s

/-- `repeat n times` (R13): structural recursion, each repetition on the result of the one before. -/
def repeatTimes {α : Type} : Nat → (α → α) → α → α
  | 0, _, x => x
  | n + 1, f, x => repeatTimes n f (f x)

/-- What a step answers when something more happens after a next state. -/
def thenNext (o : Host.Outcome State Fault Refusal) (f : State → State) : Host.Outcome State Fault Refusal :=
  match o with
  | .next s => .next (f s)
  | .fault r => .fault r
  | .refused r => .refused r

end Sys2Proof.Machine
end

