-- ==== Sys2Proof/Machine/Initializer.lean ====
section
/-! DEFINITION. The State Initializer (40_initializer.md): the functions of R90 to R92 and the commands SEED, CASTEP,
INIT. -/

namespace Sys2Proof.Machine

/-- `seedState(M, L)` (R90), for `L ≥ 1`: `seed[i] = M[i mod L] ^ ((L * 37) mod 256)`. -/
def seedState (M : Nat → Byte) (L : Nat) : Vector Byte 128 :=
  Vector.ofFn (fun i => M (i.val % L) ^^^ BitVec.ofNat 8 (L * seedMul))

/-- Cell `i` after one cellular-automaton step (R91): `p[i-1] ^ (p[i] | p[i+1])` for the interior cells, the edge
policy `CA_EDGE` for cells 0 and 127. -/
def caCell (edge : CaEdge) (p : Vector Byte 128) (i : Fin 128) : Byte :=
  if h : 1 ≤ i.val ∧ i.val ≤ 126 then
    p[i.val - 1]'(by omega) ^^^ (p[i.val]'(by omega) ||| p[i.val + 1]'(by omega))
  else
    match edge with
    | .zero => 0#8
    | .carry => p[i]

/-- `caStep(p)` (R91): all 128 new cells from the old array. -/
def caStep (edge : CaEdge) (p : Vector Byte 128) : Vector Byte 128 :=
  Vector.ofFn (caCell edge p)

/-- `initialize(M, L) = caStep^64(seedState(M, L))` (R92). -/
def initializeState (edge : CaEdge) (M : Nat → Byte) (L : Nat) : Vector Byte 128 :=
  repeatTimes caSteps (caStep edge) (seedState M L)

/-- The effect of SEED (R93). -/
def State.seedEffect (s : State) : State :=
  s.withS (seedState s.readMsg s.LEN.toNat)

/-- The effect of CASTEP n (R94). -/
def State.castepEffect (n : Nat) (s : State) : State :=
  s.withS (repeatTimes n (caStep s.params.caEdge) s.S)

/-- The effect of INIT (R95). -/
def State.initEffect (s : State) : State :=
  ((s.withS (initializeState s.params.caEdge s.readMsg s.LEN.toNat)).withBLKIDX 0#64).withSEQ 0#5 0#4

/-- SEED (R93). -/
def execSeed (s : State) : Host.Outcome State Fault Refusal :=
  accept s (fun s => s.guarded s.initFault State.seedEffect)

/-- CASTEP n (R94): it raises no fault and does not look at `LEN`. -/
def execCastep (n : Nat) (s : State) : Host.Outcome State Fault Refusal :=
  accept s (State.castepEffect n)

/-- INIT (R95). -/
def execInit (s : State) : Host.Outcome State Fault Refusal :=
  accept s (fun s => s.guarded s.initFault State.initEffect)

end Sys2Proof.Machine
end

