-- ==== Sys2Proof/Machine/Padder.lean ====
section
/-! DEFINITION. The Padder (41_padder.md): `padByte` of R100 and the command PADBLK. -/

namespace Sys2Proof.Machine

/-- The fill pattern at index `p` (R100): `(p * 0x41C64E6D) mod 256`, a mathematical product. -/
def fillByte (p : Nat) : Byte := BitVec.ofNat 8 (p * K_LCGA.toNat)

/-- The marker byte of a message of `L` bytes (R100): `0x80 ^ ((L * 31) mod 256)`. -/
def markerByte (L : Nat) : Byte := markerBit ^^^ BitVec.ofNat 8 (L * markerMul)

/-- The last-byte term (R100): `0x01 ^ ((NEWLEN * 17) mod 251)`. -/
def lastTerm (L : Nat) : Byte := lastBit ^^^ BitVec.ofNat 8 ((newlen L * lastMul) % lastMod)

/-- `padByte(M, L, p)` (R100), for `0 ≤ p < NEWLEN`: byte `p` of the padded message. The marker replaces the fill, and
the last-byte term is ORed into whatever the lines above it left. -/
def padByte (M : Nat → Byte) (L p : Nat) : Byte :=
  let copied := if p < L then M p else fillByte p
  let marked := if p = L then markerByte L else copied
  if p = newlen L - 1 then marked ||| lastTerm L else marked

/-- Block `b` of the padded message: `[padByte(M, L, 64*b + j) for j in 0..63]` (45_absorber_hash.md R146). -/
def padBlock (M : Nat → Byte) (L b : Nat) : Vector Byte 64 :=
  Vector.ofFn (fun j => padByte M L (blockBytes * b + j.val))

/-- The effect of PADBLK (R102): the block `BLKIDX`, then `BLKIDX + 1`. -/
def State.padEffect (s : State) : State :=
  (s.withBLK (padBlock s.readMsg s.LEN.toNat s.BLKIDX.toNat)).withBLKIDX (s.BLKIDX + 1#64)

/-- PADBLK (R102): LengthRange, then BlockRange; it does not raise EmptyInput (90_conflicts.md C3). -/
def execPadblk (s : State) : Host.Outcome State Fault Refusal :=
  accept s (fun s => s.guarded s.padFault State.padEffect)

end Sys2Proof.Machine
end

