-- ==== Sys2Proof/Machine/RoundConstant.lean ====
section
/-! DEFINITION. The Round-Constant Generator (42_round_constant.md): `stateHash` of R110, `roundConstant` of R111 and
the command RCGEN. -/

namespace Sys2Proof.Machine

/-- `polyhash31` from the value `h` on (R110): `h = (h * 31 + ext_64(B[k])) mod 2^64`, byte 0 first. -/
def polyhashFrom (signed : Bool) : Word → List Byte → Word
  | h, [] => h
  | h, b :: bs => polyhashFrom signed (h * polyMul + ext64 signed b) bs

/-- The value of a `STATE_HASH` given as a term (00_scope.md R8) on a 128-byte array. -/
def evalHash (t : HashTerm) (B : Vector Byte 128) : Word :=
  match t with
  | .const w => w
  | .byte k => zext64 B[k]
  | .add t u => evalHash t B + evalHash u B
  | .mul t u => evalHash t B * evalHash u B
  | .xor t u => evalHash t B ^^^ evalHash u B
  | .ifByte k b t u => if B[k] = b then evalHash t B else evalHash u B

/-- `ext_64(B[k])` as a term (00_scope.md R13): sign extension is the byte with bit 7 inverted, less 128. -/
def widenedByte (signed : Bool) (k : Fin 128) : HashTerm :=
  if signed then .add (.xor (.byte k) (.const 0x80#64)) (.const (-0x80#64)) else .byte k

/-- The loop of R110 with another initial value and multiplier, as a term: `h = init`, then
`h = (h * mult + ext_64(B[k])) mod 2^64` for k = 0..127. With 1 and 31 it is the `STATE_HASH` of V-VAR-5
(95_test_vectors_permute_hash.md). -/
def rollingHash (signed : Bool) (init mult : Word) : HashTerm :=
  (List.finRange 128).foldl (fun h k => .add (.mul h (.const mult)) (widenedByte signed k)) (.const init)

/-- `stateHash(B)` (R110): the parameter `STATE_HASH`; the default starts from 0. -/
def stateHash (p : Params) (B : Vector Byte 128) : Word :=
  match p.stateHash with
  | .polyhash31 => polyhashFrom p.byteSigned 0#64 B.toList
  | .other t => evalHash t B

/-- One iteration of the byte loop (R111): the XOR, then the rotation by `(i mod 13) + 3`. -/
def byteRound (signed : Bool) (i : Nat) (b : Byte) (seed : Word) : Word :=
  rotl64 (seed ^^^ ext64 signed b * K_MIX) (i % rcRotPeriod + rcRotLeast)

/-- The byte loop (R111) over the bytes from index `i` on, in ascending order. -/
def byteRounds (signed : Bool) : Nat → List Byte → Word → Word
  | _, [], seed => seed
  | i, b :: bs, seed => byteRounds signed (i + 1) bs (byteRound signed i b seed)

/-- One closing round (R111): `rotl64((seed * K_LCGA + K_LCGC) mod 2^64, 17)`. -/
def closingRound (seed : Word) : Word := rotl64 (seed * K_LCGA + K_LCGC) closingRot

/-- `roundConstant(r, B)` (R111). -/
def roundConstant (p : Params) (r : Nat) (B : Vector Byte 128) : Word :=
  let seed := stateHash p B ^^^ BitVec.ofNat 64 r * K_GOLD
  repeatTimes closingRounds closingRound (byteRounds p.byteSigned 0 B.toList seed)

/-- The effect of RCGEN (R113): `RC <- roundConstant(SEQ.RND, S)`. -/
def State.rcgenEffect (s : State) : State :=
  s.withRC (roundConstant s.params s.RND.toNat s.S)

/-- RCGEN (R113). -/
def execRcgen (s : State) : Host.Outcome State Fault Refusal :=
  accept s State.rcgenEffect

end Sys2Proof.Machine
end

