-- ==== Sys2Proof/Machine/Sbox.lean ====
section
/-! DEFINITION. The Non-linear Substitution (43_sbox.md): `sbox` of R120 and the command SBOX. -/

namespace Sys2Proof.Machine

/-- The right shift of step 3 (R120): arithmetic or logical, parameter `SBOX_SHIFT`. -/
def sboxShift (k : SboxShift) (x : Word) (n : Nat) : Word :=
  match k with
  | .arith => asr64 x n
  | .logical => lsr64 x n

/-- Step 1 (R120). -/
def sboxStep1 (x : Word) : Word := x ^^^ (shl64 x sboxShl &&& K_GOLD)
/-- Step 2 (R120). -/
def sboxStep2 (x : Word) : Word := rotl64 x sboxRot
/-- Step 3 (R120). -/
def sboxStep3 (k : SboxShift) (x : Word) : Word := x ^^^ (sboxShift k x sboxShr &&& K_SMASK)
/-- Step 4 (R120). -/
def sboxStep4 (x : Word) : Word := x * K_MIX
/-- Step 5 (R120). -/
def sboxStep5 (x : Word) : Word := x ^^^ bswap64 x

/-- `sbox(x)` (R120): each step on the value left by the step before. -/
def sbox (k : SboxShift) (x : Word) : Word :=
  sboxStep5 (sboxStep4 (sboxStep3 k (sboxStep2 (sboxStep1 x))))

/-- The effect of SBOX (R123): `X <- sbox(X)`. -/
def State.sboxEffect (s : State) : State := s.withX (sbox s.params.sboxShift s.X)

/-- SBOX (R123). -/
def execSbox (s : State) : Host.Outcome State Fault Refusal :=
  accept s State.sboxEffect

end Sys2Proof.Machine
end

