-- ==== Sys2Proof/Machine/Permutation.lean ====
section
/-! DEFINITION. The Permutation Engine (44_permutation.md): `wordStep` of R130, `permute` of R132 and the commands
WSTEP, ROUND, PERMUTE. -/

namespace Sys2Proof.Machine

/-- The new value of word `i` in a word-step whose round constant is `rc` (R130). `Fin 16` addition is the `mod 16` of
the neighbour indices. -/
def mixWord (p : Params) (S : Vector Byte 128) (i : Fin 16) (rc : Word) : Word :=
  let temp := wordAt p.byteOrder S (i + 1) ^^^ rc
  let w := wordAt p.byteOrder S i + temp
  let w := rotl64 w (i.val % wsRotPeriod + wsRotLeast)
  let w := w ^^^ wordAt p.byteOrder S (i + 2)
  let w := w ^^^ bswap64 (wordAt p.byteOrder S (i + 3))
  let w := w ^^^ (shl64 temp tempShl ||| lsr64 temp tempShr)
  let w := w * K_PMUL
  w ^^^ sbox p.sboxShift w

/-- `wordStep(r, i)` (R130): the state with word `i` replaced, and the round constant used, computed from all 128 bytes
as they are now (42_round_constant.md R112). -/
def wordStep (p : Params) (r : Nat) (i : Fin 16) (S : Vector Byte 128) : Vector Byte 128 × Word :=
  let rc := roundConstant p r S
  (setWordAt p.byteOrder S i (mixWord p S i rc), rc)

/-- `permute(S)` (R132) with the constant of its last word-step: 512 word-steps, round outermost, each on the state
left by the one before. -/
def permuteWithConstant (p : Params) (S : Vector Byte 128) : Vector Byte 128 × Word :=
  (List.range rounds).foldl
    (fun acc r => (List.finRange 16).foldl (fun acc i => wordStep p r i acc.1) acc) (S, 0#64)

/-- `permute(S)` (R132). -/
def permute (p : Params) (S : Vector Byte 128) : Vector Byte 128 := (permuteWithConstant p S).1

/-- The body of WSTEP (R133): the word-step at `SEQ`, `RC` its constant, `SEQ` advanced (10_state.md R30). -/
def State.wstepEffect (s : State) : State :=
  let step := wordStep s.params s.RND.toNat s.wordIndex s.S
  let moved := (s.withS step.1).withRC step.2
  if s.IDX = 15#4 then moved.withSEQ (s.RND + 1#5) 0#4 else moved.withSEQ s.RND (s.IDX + 1#4)

/-- `repeat: the body of WSTEP, until SEQ.IDX = 0`, tested after each word-step (R134), for at most `n` repetitions.
`IDX` returns to 0 within 16 word-steps, so `n = 16` is the whole loop (assumption 14). -/
def State.roundLoop : Nat → State → State
  | 0, s => s
  | n + 1, s => if s.wstepEffect.IDX = 0#4 then s.wstepEffect else State.roundLoop n s.wstepEffect

/-- The effect of ROUND (R134). -/
def State.roundEffect (s : State) : State := State.roundLoop wordsPerRound s

/-- The effect of PERMUTE (R135): `SEQ <- (0, 0)`, then 512 times the body of WSTEP. -/
def State.permuteEffect (s : State) : State :=
  repeatTimes (rounds * wordsPerRound) State.wstepEffect (s.withSEQ 0#5 0#4)

/-- WSTEP (R133). -/
def execWstep (s : State) : Host.Outcome State Fault Refusal :=
  accept s State.wstepEffect

/-- ROUND (R134). -/
def execRound (s : State) : Host.Outcome State Fault Refusal :=
  accept s State.roundEffect

/-- PERMUTE (R135): it never sets `DONE` and does not look at `LEN`, `BLKIDX` or `MSG`. -/
def execPermute (s : State) : Host.Outcome State Fault Refusal :=
  accept s State.permuteEffect

end Sys2Proof.Machine
end

