-- ==== Sys2Proof/Machine/Absorber.lean ====
section
/-! DEFINITION. The Absorber and the top-level hash (45_absorber_hash.md): `absorb` of R145, `hash` of R146 and the
commands ABSORB, HASH. -/

namespace Sys2Proof.Machine

/-- `absorb(S, B)` (R145): `S[k] ^ B[k]` at k = 0..63, `S[k]` at k = 64..127. -/
def absorbBlock (S : Vector Byte 128) (B : Vector Byte 64) : Vector Byte 128 :=
  Vector.ofFn (fun k => if h : k.val < 64 then S[k] ^^^ B[k.val] else S[k])

/-- The state after the blocks `0..n-1` of the padded message have been absorbed and permuted, in ascending order
(R146). -/
def absorbBlocks (p : Params) (M : Nat → Byte) (L n : Nat) : Vector Byte 128 :=
  (List.range n).foldl (fun S b => permute p (absorbBlock S (padBlock M L b))) (initializeState p.caEdge M L)

/-- The final state of `hash(M, L)` (R146), for `L ≥ 1`. -/
def hashState (p : Params) (M : Nat → Byte) (L : Nat) : Vector Byte 128 := absorbBlocks p M L (nblk L)

/-- `hash(M, L)` (R146): the first 64 bytes of the final state. -/
def sihaHash (p : Params) (M : Nat → Byte) (L : Nat) : Vector Byte 64 := digestOf (hashState p M L)

/-- The effect of ABSORB (R147). -/
def State.absorbEffect (s : State) : State := s.withS (absorbBlock s.S s.BLK)

/-- One repetition of the loop of HASH (R148): as PADBLK, as ABSORB, as PERMUTE. -/
def State.hashBlock (s : State) : State := s.padEffect.absorbEffect.permuteEffect

/-- The effect of HASH (R148): as INIT, then `NBLK` repetitions, then `DONE <- 1`. -/
def State.hashEffect (s : State) : State :=
  (repeatTimes (nblk s.LEN.toNat) State.hashBlock s.initEffect).setDone

/-- ABSORB (R147). -/
def execAbsorb (s : State) : Host.Outcome State Fault Refusal :=
  accept s State.absorbEffect

/-- HASH (R148). -/
def execHash (s : State) : Host.Outcome State Fault Refusal :=
  accept s (fun s => s.guarded s.initFault State.hashEffect)

end Sys2Proof.Machine
end

