-- ==== Sys2Proof/Machine/Control.lean ====
section
/-! DEFINITION. The control commands NOP and CLEAR (46_control.md). -/

namespace Sys2Proof.Machine

/-- NOP (R155): no state changes, with a fault pending or without; `DONE` keeps its value (30_encoding.md R75). -/
def execNop (s : State) : Host.Outcome State Fault Refusal := .next s

/-- CLEAR (R156): every register to its reset value, `MSG` unchanged; executed also while a fault is pending
(60_exceptions.md R162). -/
def execClear (s : State) : Host.Outcome State Fault Refusal := .next s.clearRegisters

end Sys2Proof.Machine
end

