-- ==== Sys2Proof/Machine/Dispatch.lean ====
section
/-! DEFINITION. The command a legal value written to `CMD` selects (30_encoding.md R72, R75), one arm per constructor. -/

namespace Sys2Proof.Machine

def exec (i : Instr) (s : State) : Host.Outcome State Fault Refusal :=
  match i with
  | .nop => Sys2Proof.Machine.execNop s
  | .clear => Sys2Proof.Machine.execClear s
  | .seed => Sys2Proof.Machine.execSeed s
  | .castep n => Sys2Proof.Machine.execCastep n s
  | .init => Sys2Proof.Machine.execInit s
  | .padblk => Sys2Proof.Machine.execPadblk s
  | .absorb => Sys2Proof.Machine.execAbsorb s
  | .rcgen => Sys2Proof.Machine.execRcgen s
  | .sbox => Sys2Proof.Machine.execSbox s
  | .wstep => Sys2Proof.Machine.execWstep s
  | .round => Sys2Proof.Machine.execRound s
  | .permute => Sys2Proof.Machine.execPermute s
  | .hash => Sys2Proof.Machine.execHash s

end Sys2Proof.Machine
end

