-- ==== Sys2Proof/Machine/Port.lean ====
section
/-! DEFINITION. The host port (20_memory.md): the address map of R53, the read and the write of every location, the bus
errors of R58, the write of `CMD` of 30_encoding.md R75, and what one host event does. -/

namespace Sys2Proof.Machine

/-- The mapped locations (R53). -/
inductive Loc where
  | cmd
  | status
  | len
  | blkidx
  | seq
  | rc
  | x
  /-- `BLKj`, bytes `BLK[8j..8j+7]`. -/
  | blk (j : Fin 8)
  /-- `SWm`, bytes `S[8m..8m+7]`. -/
  | sw (m : Fin 16)
  /-- The message window at byte offset `a` of `MSG`, a multiple of 8. -/
  | msg (a : Nat)
deriving DecidableEq, Repr

/-- The causes of a bus error (R58). They are not observable: all leave the same result. -/
inductive BusCause where
  /-- `addr` is not a multiple of 8 (R52). -/
  | misaligned
  /-- The offset is not in the map (R57). -/
  | unmapped
  /-- A write to `STATUS` or `RC` (R54). -/
  | readOnly
deriving DecidableEq, Repr

/-- The location at an offset of the map (R53), in an engine with `msgBytes` bytes of message memory. -/
def locate (msgBytes addr : Nat) : Except BusCause Loc :=
  if addr % 8 ≠ 0 then .error .misaligned
  else if addr = 0x0000 then .ok .cmd
  else if addr = 0x0008 then .ok .status
  else if addr = 0x0010 then .ok .len
  else if addr = 0x0018 then .ok .blkidx
  else if addr = 0x0020 then .ok .seq
  else if addr = 0x0028 then .ok .rc
  else if addr = 0x0030 then .ok .x
  else if h : 0x0040 ≤ addr ∧ addr < 0x0080 then .ok (.blk ⟨(addr - 0x0040) / 8, by omega⟩)
  else if h : 0x0080 ≤ addr ∧ addr < 0x0100 then .ok (.sw ⟨(addr - 0x0080) / 8, by omega⟩)
  else if 0x1000 ≤ addr ∧ (addr - 0x1000) / 8 < msgBytes / 8 then .ok (.msg (addr - 0x1000))
  else .error .unmapped

/-- The locations a host may not write (R53, R54). -/
def Loc.readOnly (l : Loc) : Bool :=
  match l with
  | .status | .rc => true
  | .cmd | .len | .blkidx | .seq | .x | .blk _ | .sw _ | .msg _ => false

/-- The data a read of a location returns (R51, R54): `CMD` reads 0, the byte arrays travel in little-endian lanes, a
scalar register reads as its value. A read has no side effect (R55). -/
def State.load (s : State) (l : Loc) : Word :=
  match l with
  | .cmd => 0#64
  | .status => s.statusWord
  | .len => s.LEN
  | .blkidx => s.BLKIDX
  | .seq => s.seqWord
  | .rc => s.RC
  | .x => s.X
  | .blk j => lanes s.BLK j.val (by omega)
  | .sw m => lanes s.S m.val (by omega)
  | .msg a => le64 (fun k => s.readMsg (a + k.val))

/-- What a write stores in a location other than `CMD` (R51, R54). A read-only location stores nothing. -/
def State.store (s : State) (l : Loc) (d : Word) : State :=
  match l with
  | .cmd => s
  | .status => s
  | .rc => s
  | .len => s.withLEN d
  | .blkidx => s.withBLKIDX d
  | .seq => s.writeSeq d
  | .x => s.withX d
  | .blk j => s.withBLK (setLanes s.BLK j.val d)
  | .sw m => s.withS (setLanes s.S m.val d)
  | .msg a => s.withMSG (s.MSG.writeBytes a (laneBytes d))

/-- A write to `CMD` (30_encoding.md R75): the command the value stands for; an illegal value raises IllegalCommand,
or is ignored while a fault is pending (60_exceptions.md R162). -/
def commandWrite (d : Word) (s : State) : Host.Outcome State Fault Refusal :=
  match decode d with
  | .ok i => exec i s
  | .error _ => accept s (fun s => s.raiseFault .illegalCommand)

/-- `HostRead(addr)` (R50): the data, or a bus error. -/
def State.hostRead (s : State) (addr : Nat) : Response :=
  match locate s.params.msgBytes addr with
  | .ok l => .data (s.load l)
  | .error _ => .busError

/-- Where a write goes (R58): the location, or the first cause of a bus error in the order misaligned, unmapped,
read-only. -/
def writeTarget (msgBytes addr : Nat) : Except BusCause Loc :=
  match locate msgBytes addr with
  | .ok l => if l.readOnly then .error .readOnly else .ok l
  | .error c => .error c

/-- `HostWrite(addr, data)` (R50). A bus error changes nothing (R58). A write to `CMD` returns `ok` whatever the
command does (R75, R161); a write to any other location stores the data and clears `DONE` (R55). -/
def hostWrite (addr : Nat) (d : Word) (s : State) : Host.Outcome State Fault Refusal :=
  match writeTarget s.params.msgBytes addr with
  | .error _ => .next (s.respond .busError)
  | .ok .cmd => thenNext (commandWrite d s) (fun t => t.respond .ok)
  | .ok l => .next ((s.store l d).clearDone.respond .ok)

/-- What one host event does (00_scope.md R6, 70_reset_and_hazards.md R180, R191). A reset has no response. -/
def perform (e : Event) (s : State) : Host.Outcome State Fault Refusal :=
  match e with
  | .read addr => .next (s.respond (s.hostRead addr))
  | .write addr d => hostWrite addr d s
  | .reset => .next s.resetEngine

/-- The offset of `CMD` (R53). -/
def cmdOffset : Nat := 0x0000

/-- The host transaction that carries a table word of `nbits` bits (30_encoding.md R70, R77 `cmd`). -/
def commandEvent (nbits w : Nat) : Event := .write cmdOffset (tableDatum nbits w)

end Sys2Proof.Machine
end

