-- ==== Sys2Proof/Machine/Step.lean ====
section
/-! DEFINITION. One step of the machine: the host's next event, with everything it causes (00_scope.md R6;
70_reset_and_hazards.md R191). -/

namespace Sys2Proof.Machine

/-- One step. The engine has no step of its own: with no event to come nothing changes (R6, R173; assumption 6). -/
def step (s : State) : Host.Outcome State Fault Refusal :=
  match s.host with
  | [] => .next s
  | e :: rest => perform e (s.withHost rest)

/-- The state in which the host's next transaction writes a table word to `CMD`; the engine fetches no code
(20_memory.md R61), so this is where its next command comes from (assumption 5). -/
def State.withFetchWord (s : State) (nbits w : Nat) : State :=
  s.withHost (commandEvent nbits w :: s.host)

end Sys2Proof.Machine
end

