-- ==== Sys2Proof/Machine/Script.lean ====
section
/-! DEFINITION. The host-script syntax of 30_encoding.md R77 and R78, as its expansion into host events. A comment, and
the value a `rd` line states, are not transactions and have no event (assumption 19). -/

namespace Sys2Proof.Machine

/-- `<loc>` of R77. -/
inductive ScriptLoc where
  | cmd
  | status
  | len
  | blkidx
  | seq
  | rc
  | x
  /-- `BLK0` .. `BLK7`. -/
  | blk (j : Fin 8)
  /-- `SW0` .. `SW15`. -/
  | sw (m : Fin 16)
  /-- `MSG+<byte offset>`. -/
  | msg (a : Nat)
  /-- `<numeric offset>`. -/
  | numeric (addr : Nat)
deriving DecidableEq, Repr

/-- `offset(<loc>)` (20_memory.md R53). -/
def ScriptLoc.offset (l : ScriptLoc) : Nat :=
  match l with
  | .cmd => cmdOffset
  | .status => 0x0008
  | .len => 0x0010
  | .blkidx => 0x0018
  | .seq => 0x0020
  | .rc => 0x0028
  | .x => 0x0030
  | .blk j => 0x0040 + 8 * j.val
  | .sw m => 0x0080 + 8 * m.val
  | .msg a => 0x1000 + a
  | .numeric addr => addr

/-- The statements of R77 and the pseudo-statements of R78. A message, given in hexadecimal or as text, is its
bytes. -/
inductive Stmt where
  | wr (l : ScriptLoc) (value : Word)
  | rd (l : ScriptLoc)
  | cmd (i : Instr)
  | msg (bytes : List Byte)
  | seq (r : BitVec 5) (i : BitVec 4)
  | state (bytes : Vector Byte 128)
  | block (bytes : Vector Byte 64)
  | digest
deriving DecidableEq, Repr

/-- `le64` of eight bytes of a list from index `i` on, missing bytes taken as 0 (R78). -/
def wordOfBytes (bytes : List Byte) (i : Nat) : Word :=
  le64 (fun k => bytes.getD (i + k.val) 0#8)

/-- The events a statement stands for (R77, R78). -/
def Stmt.events (st : Stmt) : List Event :=
  match st with
  | .wr l v => [.write l.offset v]
  | .rd l => [.read l.offset]
  | .cmd i => [.write cmdOffset (encode i)]
  | .msg bytes =>
    (List.range ((bytes.length + 7) / 8)).map (fun q => .write (ScriptLoc.msg (8 * q)).offset (wordOfBytes bytes (8 * q)))
      ++ [.write ScriptLoc.len.offset (BitVec.ofNat 64 bytes.length)]
  | .seq r i => [.write ScriptLoc.seq.offset (BitVec.ofNat 64 (16 * r.toNat + i.toNat))]
  | .state bytes =>
    (List.finRange 16).map (fun m => .write (ScriptLoc.sw m).offset (lanes bytes m.val (by omega)))
  | .block bytes =>
    (List.finRange 8).map (fun j => .write (ScriptLoc.blk j).offset (lanes bytes j.val (by omega)))
  | .digest =>
    (List.finRange 8).map (fun m => .read (ScriptLoc.sw ⟨m.val, by omega⟩).offset)

/-- The events of a program, statement by statement, in order (R77). -/
def scriptEvents (prog : List Stmt) : List Event := prog.flatMap Stmt.events

end Sys2Proof.Machine
end

