-- ==== Sys2Proof/Safety.lean ====
section
/-! DEFINITION. What counts as a safe run, in the terms claims use: the well-formed states, and the meaning of
`STATUS.DONE` (10_state.md R34, 70_reset_and_hazards.md R185). -/

namespace Sys2Proof.Machine

/-- A well-formed state: the parameters are ones R8 allows, the message memory is in canonical form, and every listed
byte lies inside it (10_state.md R37). -/
def State.wf (s : State) : Prop :=
  s.params.wf = true ∧ s.MSG.wf ∧ ∀ c ∈ s.MSG, c.1 < s.params.msgBytes

/-- The length lets HASH run (R160). -/
def State.lengthOk (s : State) : Prop :=
  s.LEN ≠ 0#64 ∧ s.LEN.toNat ≤ s.params.msgBytes

/-- While `DONE = 1`, no fault is pending, the length is one HASH accepts and `S[0..63]` is the digest of
`MSG[0..LEN-1]` (R34, R185). -/
def State.digestValid (s : State) : Prop :=
  s.DONE = true →
    s.ERR = .none ∧ s.lengthOk ∧ digestOf s.S = sihaHash s.params s.readMsg s.LEN.toNat

end Sys2Proof.Machine
end

