-- ==== Sys2Proof/Certificates/Slice0/Obligations.lean ====
section
/-! DEFINITION. The statements for the provers, each about the machine and each citing the numbered rules it comes from.
Constants and formulas are written out from the rules here and not taken from the model's definitions wherever the
rule gives them, so that a statement checks the model against the rule. A statement about `step` speaks of the host's
events and the responses as the two lists of `State` that hold them; the lists are the model's (assumption 5), what an
event does to the registers and what it answers are the rules'. -/

namespace Sys2Proof.Claims

open Sys2Proof Sys2Proof.Machine

/-- Commands executed one after another, with no host event in between. -/
def execAll : List Instr → State → Host.Outcome State Fault Refusal
  | [], s => .next s
  | i :: is, s =>
    match exec i s with
    | .next t => execAll is t
    | .fault r => .fault r
    | .refused r => .refused r

/-- The thirteen `op` values of 30_encoding.md R72. -/
def opValues : List (BitVec 8) :=
  [0x00, 0x01, 0x10, 0x11, 0x12, 0x20, 0x21, 0x30, 0x31, 0x32, 0x33, 0x34, 0x40]

/-- The twelve fixed words of 30_encoding.md R72. -/
def fixedWords : List (BitVec 64) :=
  [0x00000000, 0x01000000, 0x10000000, 0x12000000, 0x20000000, 0x21000000, 0x30000000, 0x31000000, 0x32000000,
   0x33000000, 0x34000000, 0x40000000]

/-- Legality as 30_encoding.md R73 words it, field by field. -/
def legal (d : BitVec 64) : Prop :=
  d.extractLsb' 32 32 = 0#32 ∧ d.extractLsb' 8 16 = 0#16 ∧ d.extractLsb' 24 8 ∈ opValues ∧
    (d.extractLsb' 0 8 = 0#8 ∨ d.extractLsb' 24 8 = 0x11#8)

/-- The offsets of 20_memory.md R53 that are mapped, in an engine with `M` bytes of message memory. -/
def mapped (M a : Nat) : Prop :=
  (∃ q, q ≤ 6 ∧ a = 8 * q) ∨ (∃ j, j < 8 ∧ a = 0x40 + 8 * j) ∨ (∃ m, m < 16 ∧ a = 0x80 + 8 * m) ∨
    (∃ q, q < M / 8 ∧ a = 0x1000 + 8 * q)

/-- `ext_64` of 00_scope.md R13. -/
def widen (signed : Bool) (b : BitVec 8) : BitVec 64 := if signed then b.signExtend 64 else b.setWidth 64

/-- The source's padding procedure (41_padder.md R101), one step of it at a time over the whole buffer: the
zero-extended copy, the XOR of the fill pattern into the padding region, the marker, the OR into the last byte. -/
def sourcePad (M : Nat → Byte) (L N : Nat) : Nat → Byte :=
  let copied : Nat → Byte := fun i => if i < L then M i else 0#8
  let filled : Nat → Byte := fun i =>
    if L ≤ i ∧ i ≤ N - 1 then copied i ^^^ BitVec.ofNat 8 ((i * 0x41C64E6D) % 256) else copied i
  let marked : Nat → Byte := fun i => if i = L then 0x80#8 ^^^ BitVec.ofNat 8 ((L * 31) % 256) else filled i
  fun i => if i = N - 1 then marked i ||| (0x01#8 ^^^ BitVec.ofNat 8 ((N * 17) % 251)) else marked i

/-- The message bytes of a list, as the engine's reads see them. -/
def bytesOf (bs : List Byte) : Nat → Byte := fun a => bs.getD a 0#8

end Sys2Proof.Claims

open Sys2Proof Sys2Proof.Machine Sys2Proof.Claims

/-! ## Encoding and dispatch (30_encoding.md) -/

/-- The thirteen words of R72 (V-ENC-1 of 95_test_vectors.md) decode to their commands. -/
def Obligations.CommandWordsDecode : Prop :=
  decode 0x0000000000000000#64 = .ok .nop ∧ decode 0x0000000001000000#64 = .ok .clear ∧
  decode 0x0000000010000000#64 = .ok .seed ∧ decode 0x0000000011000000#64 = .ok (.castep 0) ∧
  decode 0x0000000011000040#64 = .ok (.castep 64) ∧ decode 0x00000000110000FF#64 = .ok (.castep 255) ∧
  decode 0x0000000012000000#64 = .ok .init ∧ decode 0x0000000020000000#64 = .ok .padblk ∧
  decode 0x0000000021000000#64 = .ok .absorb ∧ decode 0x0000000030000000#64 = .ok .rcgen ∧
  decode 0x0000000031000000#64 = .ok .sbox ∧ decode 0x0000000032000000#64 = .ok .wstep ∧
  decode 0x0000000033000000#64 = .ok .round ∧ decode 0x0000000034000000#64 = .ok .permute ∧
  decode 0x0000000040000000#64 = .ok .hash

/-- Every well-formed command is what its encoding decodes to. -/
def Obligations.DecodeOfEncodeIsIdentity : Prop :=
  ∀ i : Instr, i.wellFormed = true → decode (encode i) = .ok i

/-- R73, both forms: the legal values, by their fields and as a list of words. -/
def Obligations.LegalCommandsAreExactlyRuleR73 : Prop :=
  ∀ d : BitVec 64,
    ((∃ i, decode d = .ok i) ↔ legal d) ∧
    ((∃ i, decode d = .ok i) ↔ d ∈ fixedWords ∨ (0x11000000 ≤ d.toNat ∧ d.toNat ≤ 0x110000FF))

/-- A value decodes to one command only, and that command's encoding is the value: no encoding executes as another
command (R74). -/
def Obligations.DecodedCommandReencodes : Prop :=
  ∀ (d : BitVec 64) (i : Instr), decode d = .ok i → i.wellFormed = true ∧ encode i = d

/-- A step at which the host's next event writes a legal value to `CMD` is `exec` of the decoded command, with the
event taken from the list and the response `ok` appended. -/
def Obligations.StepRunsDecodedCommand : Prop :=
  ∀ (s : State) (d : BitVec 64) (rest : List Event) (i : Instr),
    s.host = .write 0x0000 d :: rest → decode d = .ok i →
      ∃ t, exec i { s with host := rest } = .next t ∧
        step s = .next { t with responses := t.responses ++ [.ok] }

/-- R75: what a write to `CMD` does, line by line. -/
def Obligations.CommandWriteFollowsRuleR75 : Prop :=
  ∀ (s : State) (d : BitVec 64) (rest : List Event), s.host = .write 0x0000 d :: rest →
    ∃ t, step s = .next { t with responses := t.responses ++ [.ok] } ∧
      (s.ERR ≠ .none → d = 0x0000000001000000#64 → exec .clear { s with host := rest } = .next t) ∧
      (s.ERR ≠ .none → d ≠ 0x0000000001000000#64 → t = { s with host := rest }) ∧
      (s.ERR = .none → d = 0#64 → t = { s with host := rest }) ∧
      (s.ERR = .none → d ≠ 0#64 → ¬ legal d →
        t = { s with host := rest, DONE := false, ERR := .illegalCommand }) ∧
      (s.ERR = .none → d ≠ 0#64 → legal d →
        (∃ i, decode d = .ok i ∧ i.opcode = (d.extractLsb' 24 8).toNat ∧
          exec i { s with host := rest, DONE := false } = .next t) ∧
        (t.ERR ≠ .none → t = { s with host := rest, DONE := false, ERR := t.ERR }))

/-- R74: an illegal value raises IllegalCommand and changes nothing else; of the 256 `op` values 243 are unassigned;
a non-zero `rsv`, a non-zero high half and a non-zero `imm8` on a format Z command are illegal; only the all-zero value
is NOP. -/
def Obligations.IllegalValuesRaiseIllegalCommand : Prop :=
  (∀ (s : State) (d : BitVec 64) (rest : List Event), s.host = .write 0x0000 d :: rest → s.ERR = .none →
    (¬ legal d ∨ d.extractLsb' 24 8 ∉ opValues ∨ d.extractLsb' 8 16 ≠ 0#16 ∨ d.extractLsb' 32 32 ≠ 0#32 ∨
      (d.extractLsb' 0 8 ≠ 0#8 ∧ d.extractLsb' 24 8 ≠ 0x11#8)) →
    step s = .next { s with host := rest, DONE := false, ERR := .illegalCommand,
                            responses := s.responses ++ [.ok] }) ∧
  ((List.range 256).filter (fun v => (decodeTableWord 32 (v * 2 ^ 24)).isNone)).length = 243 ∧
  (∀ d : BitVec 64, decode d = .ok .nop ↔ d = 0#64)

/-- R162: while a fault is pending every value written to `CMD` but the exact CLEAR word changes no state, and every
command but CLEAR has no effect. -/
def Obligations.PendingFaultIgnoresCommands : Prop :=
  ∀ s : State, s.ERR ≠ .none →
    (∀ (d : BitVec 64) (rest : List Event), s.host = .write 0x0000 d :: rest →
      (d ≠ 0x0000000001000000#64 → step s = .next { s with host := rest, responses := s.responses ++ [.ok] }) ∧
      (d = 0x0000000001000000#64 → ∃ t, step s = .next t ∧ t.ERR = .none)) ∧
    (∀ i : Instr, i ≠ .clear → exec i s = .next s)

/-! ## Control commands (46_control.md) -/

/-- R155: NOP changes no state, whatever the state; only the all-zero value is NOP, and the value 1 is illegal. -/
def Obligations.NopChangesNothing : Prop :=
  (∀ s : State, exec .nop s = .next s) ∧ (∀ d : BitVec 64, decode d = .ok .nop ↔ d = 0#64) ∧ ¬ legal 1#64

/-- R156: CLEAR, in every state, puts every register at its reset value and leaves `MSG` as it is; only the exact word
is CLEAR. -/
def Obligations.ClearResetsEveryRegister : Prop :=
  (∀ s : State, ∃ t, exec .clear s = .next t ∧
    (∀ (k : Nat) (hk : k < 128), t.S[k] = 0#8) ∧ (∀ (j : Nat) (hj : j < 64), t.BLK[j] = 0#8) ∧
    t.LEN = 0#64 ∧ t.BLKIDX = 0#64 ∧ t.RND = 0#5 ∧ t.IDX = 0#4 ∧ t.RC = 0#64 ∧ t.X = 0#64 ∧
    t.DONE = false ∧ t.ERR = .none ∧
    t = { State.reset with MSG := s.MSG, msgDraw := s.msgDraw, params := s.params, host := s.host,
                           responses := s.responses } ∧
    (∀ a, t.readMsg a = s.readMsg a)) ∧
  (∀ d : BitVec 64, decode d = .ok .clear ↔ d = 0x0000000001000000#64)

/-! ## State Initializer (40_initializer.md) -/

/-- R90, R93: SEED with `1 ≤ LEN ≤ MSG_BYTES` writes the seed array and nothing else but `DONE`. -/
def Obligations.SeedWritesTheSeedArray : Prop :=
  ∀ s : State, s.ERR = .none → s.LEN ≠ 0#64 → s.LEN.toNat ≤ s.params.msgBytes →
    ∃ t, exec .seed s = .next t ∧
      (∀ (k : Nat) (hk : k < 128),
        t.S[k] = s.readMsg (k % s.LEN.toNat) ^^^ BitVec.ofNat 8 ((s.LEN.toNat * 37) % 256)) ∧
      t = { s with S := t.S, DONE := false } ∧ (∀ a, t.readMsg a = s.readMsg a)

/-- R160, R161, R93, R95, R148: SEED, INIT and HASH with `LEN = 0` raise EmptyInput, with `LEN > MSG_BYTES` LengthRange;
nothing but `ERR` and `DONE` is written. -/
def Obligations.InitializerLengthFaults : Prop :=
  ∀ (s : State) (i : Instr), s.ERR = .none → (i = .seed ∨ i = .init ∨ i = .hash) →
    (s.LEN = 0#64 → exec i s = .next { s with ERR := .emptyInput, DONE := false }) ∧
    (s.params.msgBytes < s.LEN.toNat → s.LEN ≠ 0#64 →
      exec i s = .next { s with ERR := .lengthRange, DONE := false })

/-- R91, R94: CASTEP n completes for every count; it writes `S` and `DONE` only; with count 0 `S` stays; one more step
computes every interior cell from the old array and the edge cells by the edge policy. The rules give this for the
counts an encoding has, 0 to 255; what a larger count means is the model's choice (assumption 12). -/
def Obligations.CastepIsTheRepeatedCellRule : Prop :=
  ∀ (s : State) (n : Nat), s.ERR = .none →
    ∃ t, exec (.castep n) s = .next t ∧ t = { s with S := t.S, DONE := false } ∧
      (∀ a, t.readMsg a = s.readMsg a) ∧ (n = 0 → t.S = s.S) ∧
      (∀ m, n = m + 1 → ∃ u, exec (.castep m) s = .next u ∧
        (∀ (i : Nat) (h1 : 1 ≤ i) (h2 : i ≤ 126), t.S[i] = u.S[i - 1] ^^^ (u.S[i] ||| u.S[i + 1])) ∧
        (s.params.caEdge = .zero → t.S[0] = 0#8 ∧ t.S[127] = 0#8) ∧
        (s.params.caEdge = .carry → t.S[0] = u.S[0] ∧ t.S[127] = u.S[127]))

/-- R94: CASTEP m then CASTEP n is CASTEP (m + n). The rule says so where the three commands have encodings, that is
for `m + n ≤ 255`; for a larger sum the right side is a term no encoding gives, and what it means is the model's choice
(assumption 12). -/
def Obligations.CastepsCompose : Prop :=
  ∀ (s : State) (m n : Nat), execAll [.castep m, .castep n] s = exec (.castep (m + n)) s

/-- R96 (a), (b): with `CA_EDGE = ZERO`, after a CASTEP of at least one step cells 0 and 127 are 0, and a constant
array becomes all zero; INIT likewise, for a message whose first `min(LEN, 128)` bytes are equal. Counts above 255 have
no encoding; what they mean is the model's choice (assumption 12). -/
def Obligations.ZeroEdgeAndConstantArrays : Prop :=
  ∀ s : State, s.ERR = .none → s.params.caEdge = .zero →
    (∀ n, 1 ≤ n → ∃ t, exec (.castep n) s = .next t ∧ t.S[0] = 0#8 ∧ t.S[127] = 0#8 ∧
      ((∃ c, ∀ (k : Nat) (hk : k < 128), s.S[k] = c) → ∀ (k : Nat) (hk : k < 128), t.S[k] = 0#8)) ∧
    (s.LEN ≠ 0#64 → s.LEN.toNat ≤ s.params.msgBytes →
      ∃ t, exec .init s = .next t ∧ t.S[0] = 0#8 ∧ t.S[127] = 0#8 ∧
        ((∃ c, ∀ a, a < min s.LEN.toNat 128 → s.readMsg a = c) → ∀ (k : Nat) (hk : k < 128), t.S[k] = 0#8))

/-- R96 (c): the eight bit planes evolve independently: bit `b` after CASTEP n depends on bit `b` before it only. Counts
above 255 have no encoding; what they mean is the model's choice (assumption 12). -/
def Obligations.CellularAutomatonBitPlanes : Prop :=
  ∀ (s s' : State) (n b : Nat), s.ERR = .none → s'.ERR = .none → s'.params.caEdge = s.params.caEdge →
    (∀ (k : Nat) (hk : k < 128), s.S[k].getLsbD b = s'.S[k].getLsbD b) →
      ∃ t t', exec (.castep n) s = .next t ∧ exec (.castep n) s' = .next t' ∧
        ∀ (k : Nat) (hk : k < 128), t.S[k].getLsbD b = t'.S[k].getLsbD b

/-- R92, R95: INIT is SEED, then CASTEP 64, and `BLKIDX` and `SEQ` at 0; nothing else but `DONE` is written. -/
def Obligations.InitIsSeedThenSixtyFourSteps : Prop :=
  ∀ s : State, s.ERR = .none → s.LEN ≠ 0#64 → s.LEN.toNat ≤ s.params.msgBytes →
    ∃ u v t, exec .seed s = .next u ∧ exec (.castep 64) u = .next v ∧ exec .init s = .next t ∧
      t = { v with BLKIDX := 0#64, RND := 0#5, IDX := 0#4 } ∧
      t = { s with S := t.S, BLKIDX := 0#64, RND := 0#5, IDX := 0#4, DONE := false } ∧
      (∀ a, t.readMsg a = s.readMsg a)

/-! ## Padder (41_padder.md) -/

/-- R164, R102: PADBLK with `LEN > MSG_BYTES` raises LengthRange whatever `BLKIDX` is; otherwise with `BLKIDX ≥ NBLK`
BlockRange; nothing but `ERR` and `DONE` is written. -/
def Obligations.PadblkFaultOrder : Prop :=
  ∀ s : State, s.ERR = .none →
    (s.params.msgBytes < s.LEN.toNat → exec .padblk s = .next { s with ERR := .lengthRange, DONE := false }) ∧
    (s.LEN.toNat ≤ s.params.msgBytes → s.LEN.toNat / 64 + 1 ≤ s.BLKIDX.toNat →
      exec .padblk s = .next { s with ERR := .blockRange, DONE := false })

/-- R100, R102: PADBLK writes block `BLKIDX` of the padded message, byte by byte as R100 defines it, and adds 1 to
`BLKIDX`; `LEN = 0` is accepted; nothing else but `DONE` is written. -/
def Obligations.PadblkWritesThePaddedBlock : Prop :=
  ∀ (s : State) (L N : Nat), L = s.LEN.toNat → N = 64 * (L / 64 + 1) →
    s.ERR = .none → L ≤ s.params.msgBytes → s.BLKIDX.toNat < L / 64 + 1 →
    ∃ t, exec .padblk s = .next t ∧
      (∀ (j p : Nat) (hj : j < 64), p = 64 * s.BLKIDX.toNat + j →
        (p < L → t.BLK[j] = s.readMsg p) ∧
        (L < p → p ≠ N - 1 → t.BLK[j] = BitVec.ofNat 8 ((p * 0x41C64E6D) % 256)) ∧
        (p = L → p ≠ N - 1 → t.BLK[j] = 0x80#8 ^^^ BitVec.ofNat 8 ((L * 31) % 256)) ∧
        (L < p → p = N - 1 → t.BLK[j] =
          BitVec.ofNat 8 ((p * 0x41C64E6D) % 256) ||| (0x01#8 ^^^ BitVec.ofNat 8 ((N * 17) % 251))) ∧
        (p = L → p = N - 1 → t.BLK[j] =
          (0x80#8 ^^^ BitVec.ofNat 8 ((L * 31) % 256)) ||| (0x01#8 ^^^ BitVec.ofNat 8 ((N * 17) % 251)))) ∧
      t.BLKIDX.toNat = s.BLKIDX.toNat + 1 ∧
      t = { s with BLK := t.BLK, BLKIDX := t.BLKIDX, DONE := false } ∧ (∀ a, t.readMsg a = s.readMsg a)

/-- R101, R38: `padByte` is the source's four-step procedure on every index of the padded message, and the padded
length is the smallest multiple of 64 strictly greater than the length. -/
def Obligations.PadByteIsTheSourceProcedure : Prop :=
  (∀ (M : Nat → Byte) (L p : Nat), p < newlen L → padByte M L p = sourcePad M L (newlen L) p) ∧
  (∀ L, L < newlen L ∧ newlen L % 64 = 0 ∧ ∀ n, n % 64 = 0 → L < n → newlen L ≤ n)

/-! ## Absorber (45_absorber_hash.md) -/

/-- R145, R147: ABSORB XORs the block into `S[0..63]`, leaves `S[64..127]` and everything else but `DONE`; a second
ABSORB restores `S`. -/
def Obligations.AbsorbXorsTheBlock : Prop :=
  ∀ s : State, s.ERR = .none →
    ∃ t u, exec .absorb s = .next t ∧
      (∀ (k : Nat) (hk : k < 64), t.S[k] = s.S[k] ^^^ s.BLK[k]) ∧
      (∀ (k : Nat) (h1 : 64 ≤ k) (h2 : k < 128), t.S[k] = s.S[k]) ∧
      t = { s with S := t.S, DONE := false } ∧ (∀ a, t.readMsg a = s.readMsg a) ∧
      exec .absorb t = .next u ∧ u.S = s.S

/-! ## Round-Constant Generator (42_round_constant.md) -/

/-- R113: RCGEN writes the round constant of `SEQ.RND` and the whole of `S` into `RC`, and nothing else but `DONE`. -/
def Obligations.RcgenWritesTheRoundConstant : Prop :=
  ∀ s : State, s.ERR = .none →
    ∃ t, exec .rcgen s = .next t ∧ t.RC = roundConstant s.params s.RND.toNat s.S ∧
      t = { s with RC := t.RC, DONE := false } ∧ (∀ a, t.readMsg a = s.readMsg a)

/-- R111: `roundConstant` is the loop of the rule over the byte indices 0 to 127 in ascending order, then 8 closing
rounds. -/
def Obligations.RoundConstantIsTheRuleLoop : Prop :=
  ∀ (p : Params) (r : Nat) (B : Vector Byte 128),
    roundConstant p r B =
      (List.range 8).foldl (fun seed _ => (seed * 0x41C64E6D#64 + 0x3039#64).rotateLeft 17)
        ((List.finRange 128).foldl
          (fun seed i => (seed ^^^ widen p.byteSigned B[i] * 0xA3B195354A39B70D#64).rotateLeft (i.val % 13 + 3))
          (stateHash p B ^^^ BitVec.ofNat 64 r * 0x9E3779B97F4A7C15#64))

/-- R110: `polyhash31` is the polynomial in 31 whose coefficients are the widened bytes. -/
def Obligations.PolyhashIsTheBytePolynomial : Prop :=
  ∀ (p : Params) (B : Vector Byte 128), p.stateHash = .polyhash31 →
    stateHash p B =
      ((List.finRange 128).map (fun k => widen p.byteSigned B[k] * BitVec.ofNat 64 (31 ^ (127 - k.val)))).sum

/-- R114 (a), (b): on the all-zero state the byte loop only rotates, by 53 in total, and the constant of round 0 is the
value the rule prints. -/
def Obligations.ZeroStateRoundConstant : Prop :=
  ∀ p : Params, p.stateHash = .polyhash31 →
    (∀ r, roundConstant p r (Vector.replicate 128 0#8) =
      (List.range 8).foldl (fun seed _ => (seed * 0x41C64E6D#64 + 0x3039#64).rotateLeft 17)
        ((BitVec.ofNat 64 r * 0x9E3779B97F4A7C15#64).rotateLeft 53)) ∧
    (0x9E3779B97F4A7C15#64).rotateLeft 53 = 0x82B3C6EF372FE94F#64 ∧
    roundConstant p 0 (Vector.replicate 128 0#8) = 0x646F70AE46B7E0BB#64

/-! ## Non-linear Substitution (43_sbox.md) -/

/-- R120, R123: SBOX puts the five steps of the rule on `X` into `X`, and writes nothing else but `DONE`. -/
def Obligations.SboxAppliesTheFiveSteps : Prop :=
  ∀ (s : State) (x1 x2 x3 x4 : BitVec 64), s.ERR = .none →
    x1 = s.X ^^^ ((s.X <<< 7) &&& 0x9E3779B97F4A7C15#64) → x2 = x1.rotateLeft 13 →
    x3 = x2 ^^^ ((if s.params.sboxShift = .arith then x2.sshiftRight 11 else x2 >>> 11) &&& 0xD6E8FEB8A#64) →
    x4 = x3 * 0xA3B195354A39B70D#64 →
    ∃ (t : State) (y : BitVec 64), exec .sbox s = .next t ∧ t.X = x4 ^^^ y ∧
      (∀ k, k < 8 → y.extractLsb' (8 * k) 8 = x4.extractLsb' (8 * (7 - k)) 8) ∧
      t = { s with X := t.X, DONE := false } ∧ (∀ a, t.readMsg a = s.readMsg a)

/-- R121: the two right shifts of step 3 differ in bits 53 to 63 at most, the mask is below 2^36, and the S-box is the
same function with either. -/
def Obligations.SboxShiftKindIsUnobservable : Prop :=
  (∀ (x : BitVec 64) (b : Nat), b < 53 → (asr64 x 11).getLsbD b = (lsr64 x 11).getLsbD b) ∧
  K_SMASK.toNat < 2 ^ 36 ∧ (∀ x : BitVec 64, sbox .arith x = sbox .logical x)

/-- R122: `sbox` and every one of its steps maps 0 to 0; its result is byte-palindromic, so it is determined by its low 32 bits and takes at most
2^32 values, and it is not injective; `w ^ sbox(w)` is not palindromic in general; steps 1 to 4 are invertible and only
step 5 loses information. -/
def Obligations.SboxProperties : Prop :=
  ∀ k : SboxShift,
    sbox k 0#64 = 0#64 ∧ sboxStep1 0#64 = 0#64 ∧ sboxStep2 0#64 = 0#64 ∧ sboxStep3 k 0#64 = 0#64 ∧
    sboxStep4 0#64 = 0#64 ∧ sboxStep5 0#64 = 0#64 ∧
    (∀ x, bswap64 (sbox k x) = sbox k x) ∧
    (∀ x n, n < 8 → (sbox k x).extractLsb' (8 * n) 8 = (sbox k x).extractLsb' (8 * (7 - n)) 8) ∧
    (∀ x y, (sbox k x).extractLsb' 0 32 = (sbox k y).extractLsb' 0 32 → sbox k x = sbox k y) ∧
    (Set.range (sbox k)).ncard ≤ 2 ^ 32 ∧ ¬ Function.Injective (sbox k) ∧
    (∃ w, bswap64 (w ^^^ sbox k w) ≠ w ^^^ sbox k w) ∧
    Function.Bijective sboxStep1 ∧ Function.Bijective sboxStep2 ∧ Function.Bijective (sboxStep3 k) ∧
    Function.Bijective sboxStep4 ∧ ¬ Function.Injective sboxStep5

/-! ## Permutation Engine (44_permutation.md) -/

/-- R130, R133, R30: WSTEP changes the word `SEQ.IDX` points at, as R130 computes it, and no other word; `RC` is the
constant used; `SEQ` advances; nothing else but `DONE` is written. -/
def Obligations.WstepMixesOneWord : Prop :=
  ∀ (s : State) (i : Fin 16) (rc temp w1 w2 w3 w4 : BitVec 64) (W : Fin 16 → BitVec 64), s.ERR = .none →
    i.val = s.IDX.toNat → rc = roundConstant s.params s.RND.toNat s.S → W = wordAt s.params.byteOrder s.S →
    temp = W (i + 1) ^^^ rc → w1 = (W i + temp).rotateLeft (i.val % 7 + 5) →
    w2 = w1 ^^^ W (i + 2) ^^^ bswap64 (W (i + 3)) → w3 = w2 ^^^ (temp <<< 3 ||| temp >>> 61) →
    w4 = w3 * 0x5DEECE66D#64 →
    ∃ t, exec .wstep s = .next t ∧
      wordAt s.params.byteOrder t.S i = w4 ^^^ sbox s.params.sboxShift w4 ∧
      (∀ m, m ≠ i → wordAt s.params.byteOrder t.S m = W m) ∧ t.RC = rc ∧
      (s.IDX = 15#4 → t.IDX = 0#4 ∧ t.RND.toNat = (s.RND.toNat + 1) % 32) ∧
      (s.IDX ≠ 15#4 → t.IDX.toNat = s.IDX.toNat + 1 ∧ t.RND = s.RND) ∧
      t = { s with S := t.S, RC := t.RC, RND := t.RND, IDX := t.IDX, DONE := false } ∧
      (∀ a, t.readMsg a = s.readMsg a)

/-- R134: ROUND is the `16 - SEQ.IDX` WSTEP commands that end the round, and ends at the start of the next round. -/
def Obligations.RoundFinishesTheRound : Prop :=
  ∀ s : State, s.ERR = .none →
    ∃ t, exec .round s = .next t ∧ execAll (List.replicate (16 - s.IDX.toNat) .wstep) s = .next t ∧
      t.IDX = 0#4 ∧ t.RND = s.RND + 1#5 ∧
      t = { s with S := t.S, RC := t.RC, RND := t.RND, IDX := t.IDX, DONE := false } ∧
      (∀ a, t.readMsg a = s.readMsg a)

/-- R132, R135: PERMUTE, whatever `SEQ` was, applies the nested loops over rounds and words to `S`, leaves the constant
of word-step (31, 15) in `RC` and `SEQ` at (0, 0), and writes nothing else but `DONE`; it is 512 WSTEP from (0, 0). -/
def Obligations.PermuteIsTheNestedLoops : Prop :=
  ∀ s : State, s.ERR = .none →
    ∃ t, exec .permute s = .next t ∧
      (t.S, t.RC) = (List.range 32).foldl
        (fun acc r => (List.finRange 16).foldl (fun acc i => wordStep s.params r i acc.1) acc) (s.S, 0#64) ∧
      t.RND = 0#5 ∧ t.IDX = 0#4 ∧
      t = { s with S := t.S, RC := t.RC, RND := 0#5, IDX := 0#4, DONE := false } ∧
      (∀ a, t.readMsg a = s.readMsg a) ∧
      execAll (List.replicate 512 .wstep) { s with RND := 0#5, IDX := 0#4 } = .next t

/-- R22, R51: the word view and the byte view are one storage: a word reads back as it was written in either byte order
and writing it changes its eight bytes only; the port reads `SWm` as `W[m]` with `LE` and byte-swapped with `BE`. -/
def Obligations.WordViewIsOneStorage : Prop :=
  (∀ (o : ByteOrder) (S : Vector Byte 128) (m : Fin 16) (v : BitVec 64),
    (∀ n, wordAt o (setWordAt o S m v) n = if n = m then v else wordAt o S n) ∧
    (∀ (k : Nat) (hk : k < 128), k / 8 ≠ m.val → (setWordAt o S m v)[k] = S[k]) ∧
    (∀ (k : Nat) (hk : k < 8), (setWordAt o S m v)[8 * m.val + k] =
      match o with
      | .le => v.extractLsb' (8 * k) 8
      | .be => v.extractLsb' (8 * (7 - k)) 8)) ∧
  (∀ (s : State) (m : Fin 16), s.load (.sw m) =
    match s.params.byteOrder with
    | .le => wordAt .le s.S m
    | .be => bswap64 (wordAt .be s.S m))

/-! ## The hash (45_absorber_hash.md) -/

/-- R146, R148: HASH with `1 ≤ LEN ≤ MSG_BYTES` leaves the digest of `MSG[0..LEN-1]` in `S[0..63]`, the rest of the
final state in `S[64..127]`, the last padded block in `BLK`, `BLKIDX = NBLK`, `SEQ` = (0, 0), `RC` the constant of the
last word-step, `DONE = 1`, and changes nothing else. -/
def Obligations.HashComputesTheDigest : Prop :=
  ∀ (s : State) (L : Nat), L = s.LEN.toNat → s.ERR = .none → s.LEN ≠ 0#64 → L ≤ s.params.msgBytes →
    ∃ t, exec .hash s = .next t ∧
      t.S = hashState s.params s.readMsg L ∧
      (∀ (k : Nat) (hk : k < 64), (sihaHash s.params s.readMsg L)[k] = t.S[k]) ∧
      (∀ (j : Nat) (hj : j < 64), t.BLK[j] = padByte s.readMsg L (64 * (L / 64) + j)) ∧
      t.BLKIDX.toNat = L / 64 + 1 ∧ t.RND = 0#5 ∧ t.IDX = 0#4 ∧
      t.RC = (permuteWithConstant s.params
        (absorbBlock (absorbBlocks s.params s.readMsg L (L / 64)) (padBlock s.readMsg L (L / 64)))).2 ∧
      t.DONE = true ∧
      t = { s with S := t.S, BLK := t.BLK, BLKIDX := t.BLKIDX, RND := 0#5, IDX := 0#4, RC := t.RC, DONE := true } ∧
      (∀ a, t.readMsg a = s.readMsg a)

/-- R150: the staged sequence equals HASH in everything but `DONE`; INIT is SEED and CASTEP 64 on `S`; PERMUTE is 32
ROUND from (0, 0); ROUND from `IDX = 0` is 16 WSTEP. -/
def Obligations.StagedExecutionEqualsHash : Prop :=
  (∀ s : State, s.ERR = .none → s.LEN ≠ 0#64 → s.LEN.toNat ≤ s.params.msgBytes →
    (∃ u, execAll (.init :: (List.replicate (s.LEN.toNat / 64 + 1) [Instr.padblk, .absorb, .permute]).flatten) s =
        .next u ∧ u.DONE = false ∧ exec .hash s = .next { u with DONE := true }) ∧
    (∃ v t, execAll [.seed, .castep 64] s = .next v ∧ exec .init s = .next t ∧ t.S = v.S ∧ t.BLKIDX = 0#64 ∧
      t.RND = 0#5 ∧ t.IDX = 0#4)) ∧
  (∀ s : State, s.RND = 0#5 → s.IDX = 0#4 → s.ERR = .none →
    execAll (List.replicate 32 .round) s = exec .permute s) ∧
  (∀ s : State, s.IDX = 0#4 → s.ERR = .none → execAll (List.replicate 16 .wstep) s = exec .round s)

/-- R149: what HASH and INIT leave in the registers they write depends on `LEN`, `MSG[0..LEN-1]` and the parameters
alone. -/
def Obligations.HashAndInitIgnoreHistory : Prop :=
  ∀ s s' : State, s.ERR = .none → s'.ERR = .none → s'.LEN = s.LEN → s'.params = s.params →
    s.LEN ≠ 0#64 → s.LEN.toNat ≤ s.params.msgBytes →
    (∀ a, a < s.LEN.toNat → s'.readMsg a = s.readMsg a) →
    (∃ t t', exec .hash s = .next t ∧ exec .hash s' = .next t' ∧ t'.S = t.S ∧ t'.BLK = t.BLK ∧
      t'.BLKIDX = t.BLKIDX ∧ t'.RND = t.RND ∧ t'.IDX = t.IDX ∧ t'.RC = t.RC ∧ t'.DONE = t.DONE ∧ t'.ERR = t.ERR) ∧
    (∃ t t', exec .init s = .next t ∧ exec .init s' = .next t' ∧ t'.S = t.S ∧ t'.BLKIDX = t.BLKIDX ∧
      t'.RND = t.RND ∧ t'.IDX = t.IDX)

/-- R121, R146, R190: the digest does not depend on `SBOX_SHIFT`. -/
def Obligations.DigestIgnoresTheShiftKind : Prop :=
  ∀ (p : Params) (M : Nat → Byte) (L : Nat) (k k' : SboxShift),
    sihaHash { p with sboxShift := k } M L = sihaHash { p with sboxShift := k' } M L

/-! ## All commands -/

/-- R37, R56, R181: no command depends on a message byte at or above `LEN`: two states that differ in such bytes only
give states that differ in the message memory only, in the same way. -/
def Obligations.CommandsReadOnlyTheMessage : Prop :=
  ∀ (i : Instr) (s : State) (m : Memory) (draw : Nat),
    (∀ a, a < s.LEN.toNat → State.readMsg { s with MSG := m, msgDraw := draw } a = s.readMsg a) →
      ∃ t, exec i s = .next t ∧
        exec i { s with MSG := m, msgDraw := draw } = .next { t with MSG := m, msgDraw := draw }

/-- R37, R20: no command writes the message memory, the parameters or what belongs to the host. -/
def Obligations.CommandsNeverWriteTheMessage : Prop :=
  ∀ (i : Instr) (s t : State), exec i s = .next t →
    t.MSG = s.MSG ∧ t.msgDraw = s.msgDraw ∧ (∀ a, t.readMsg a = s.readMsg a) ∧ t.params = s.params ∧
      t.host = s.host ∧ t.responses = s.responses

/-- R20 (the column "written by the engine in"), R24, R27, R28, R30, R31, R32, R34: each register changes only in the
commands listed for it, and only HASH sets `DONE`. -/
def Obligations.RegistersChangeOnlyInTheirCommands : Prop :=
  ∀ (i : Instr) (s t : State), exec i s = .next t →
    (t.LEN ≠ s.LEN → i = .clear) ∧
    (t.X ≠ s.X → i = .sbox ∨ i = .clear) ∧
    (t.BLK ≠ s.BLK → i = .padblk ∨ i = .hash ∨ i = .clear) ∧
    (t.BLKIDX ≠ s.BLKIDX → i = .init ∨ i = .padblk ∨ i = .hash ∨ i = .clear) ∧
    (t.RND ≠ s.RND ∨ t.IDX ≠ s.IDX → i = .init ∨ i = .wstep ∨ i = .round ∨ i = .permute ∨ i = .hash ∨ i = .clear) ∧
    (t.RC ≠ s.RC → i = .rcgen ∨ i = .wstep ∨ i = .round ∨ i = .permute ∨ i = .hash ∨ i = .clear) ∧
    (t.S ≠ s.S → i = .seed ∨ (∃ n, i = .castep n) ∨ i = .init ∨ i = .absorb ∨ i = .wstep ∨ i = .round ∨
      i = .permute ∨ i = .hash ∨ i = .clear) ∧
    (t.DONE = true → s.DONE = false → i = .hash) ∧
    (s.ERR = .none → i ≠ .nop → i ≠ .hash → t.DONE = false)

/-- R160, R161, R164: a command that raises a fault changes nothing but `ERR` and `DONE`, and each code has the cause and
the commands of the table; the fourth code is never a command's own. -/
def Obligations.FaultsArePreciseAndListed : Prop :=
  ∀ (i : Instr) (s t : State), s.ERR = .none → exec i s = .next t → t.ERR ≠ .none →
    t = { s with ERR := t.ERR, DONE := false } ∧
    ((t.ERR = .emptyInput ∧ s.LEN = 0#64 ∧ (i = .seed ∨ i = .init ∨ i = .hash)) ∨
     (t.ERR = .lengthRange ∧ s.params.msgBytes < s.LEN.toNat ∧
       (i = .seed ∨ i = .init ∨ i = .padblk ∨ i = .hash)) ∨
     (t.ERR = .blockRange ∧ s.LEN.toNat ≤ s.params.msgBytes ∧ s.LEN.toNat / 64 + 1 ≤ s.BLKIDX.toNat ∧
       i = .padblk))

/-- R35, R162, R163: a pending fault keeps its code in every step except one that writes the exact CLEAR word to `CMD` or
resets, and those two leave no fault pending. -/
def Obligations.PendingFaultEndsOnlyByClearOrReset : Prop :=
  ∀ s t : State, step s = .next t → s.ERR ≠ .none →
    (t.ERR ≠ s.ERR →
      ∃ rest, s.host = .write 0x0000 0x0000000001000000#64 :: rest ∨ s.host = .reset :: rest) ∧
    (∀ rest, s.host = .write 0x0000 0x0000000001000000#64 :: rest ∨ s.host = .reset :: rest → t.ERR = .none)

/-! ## The port (20_memory.md) -/

/-- R58, R52, R54, R57: a read answers `buserror` exactly at an offset that is not in the map, a write exactly at such
an offset or at a read-only location; a bus error changes no register and no memory byte. -/
def Obligations.BusErrorsAreExactlyRuleR58 : Prop :=
  ∀ (s : State) (a : Nat) (d : BitVec 64) (rest : List Event),
    (s.host = .read a :: rest →
      (¬ mapped s.params.msgBytes a →
        step s = .next { s with host := rest, responses := s.responses ++ [.busError] }) ∧
      (mapped s.params.msgBytes a →
        ∃ v, step s = .next { s with host := rest, responses := s.responses ++ [.data v] })) ∧
    (s.host = .write a d :: rest →
      (¬ mapped s.params.msgBytes a ∨ a = 0x0008 ∨ a = 0x0028 →
        step s = .next { s with host := rest, responses := s.responses ++ [.busError] }) ∧
      (mapped s.params.msgBytes a → a ≠ 0x0008 → a ≠ 0x0028 →
        ∃ t, step s = .next t ∧ t.responses = s.responses ++ [.ok])) ∧
    (a % 8 ≠ 0 → ¬ mapped s.params.msgBytes a)

/-- R51, R53, R54, R55, R29, R33: what a read of every mapped location returns; a read changes nothing. -/
def Obligations.PortReadsReturnTheMap : Prop :=
  ∀ (s : State) (a : Nat) (rest : List Event), s.host = .read a :: rest → mapped s.params.msgBytes a →
    ∃ v : BitVec 64, step s = .next { s with host := rest, responses := s.responses ++ [.data v] } ∧
      (a = 0x0000 → v = 0#64) ∧
      (a = 0x0008 → v = BitVec.ofNat 64 (s.ERR.code.toNat * 16 + s.DONE.toNat)) ∧
      (a = 0x0010 → v = s.LEN) ∧ (a = 0x0018 → v = s.BLKIDX) ∧
      (a = 0x0020 → v = BitVec.ofNat 64 (s.RND.toNat * 16 + s.IDX.toNat)) ∧
      (a = 0x0028 → v = s.RC) ∧ (a = 0x0030 → v = s.X) ∧
      (∀ (j k : Nat) (hj : j < 8) (hk : k < 8), a = 0x0040 + 8 * j → v.extractLsb' (8 * k) 8 = s.BLK[8 * j + k]) ∧
      (∀ (m k : Nat) (hm : m < 16) (hk : k < 8), a = 0x0080 + 8 * m → v.extractLsb' (8 * k) 8 = s.S[8 * m + k]) ∧
      (∀ q k : Nat, k < 8 → a = 0x1000 + 8 * q → v.extractLsb' (8 * k) 8 = s.readMsg (8 * q + k))

/-- R51, R54, R55, R34, R29: what a write of every location but `CMD` that can be written stores; it clears `DONE`,
answers `ok` and changes nothing else, with a fault pending or without. -/
def Obligations.PortWritesStoreAndClearDone : Prop :=
  ∀ (s : State) (a : Nat) (d : BitVec 64) (rest : List Event), s.host = .write a d :: rest →
    mapped s.params.msgBytes a → a ≠ 0x0000 → a ≠ 0x0008 → a ≠ 0x0028 →
    ∃ t, step s = .next t ∧
      t = { s with S := t.S, BLK := t.BLK, LEN := t.LEN, BLKIDX := t.BLKIDX, RND := t.RND, IDX := t.IDX, X := t.X,
                   MSG := t.MSG, DONE := false, host := rest, responses := s.responses ++ [.ok] } ∧
      t.LEN = (if a = 0x0010 then d else s.LEN) ∧ t.BLKIDX = (if a = 0x0018 then d else s.BLKIDX) ∧
      t.RND = (if a = 0x0020 then d.extractLsb' 4 5 else s.RND) ∧
      t.IDX = (if a = 0x0020 then d.extractLsb' 0 4 else s.IDX) ∧ t.X = (if a = 0x0030 then d else s.X) ∧
      (∀ (k : Nat) (hk : k < 64), t.BLK[k] =
        if 0x0040 + k / 8 * 8 = a then d.extractLsb' (8 * (k % 8)) 8 else s.BLK[k]) ∧
      (∀ (k : Nat) (hk : k < 128), t.S[k] =
        if 0x0080 + k / 8 * 8 = a then d.extractLsb' (8 * (k % 8)) 8 else s.S[k]) ∧
      (∀ x, t.readMsg x = if 0x1000 + x / 8 * 8 = a then d.extractLsb' (8 * (x % 8)) 8 else s.readMsg x)

/-- R59 (a), (c), R54: a read of a location after a write to it returns the written value (for `SEQ` its nine bits), and
a read of any other location but `STATUS` returns what it returned before. -/
def Obligations.ReadAfterWriteReturnsTheDatum : Prop :=
  ∀ (s : State) (a b : Nat) (d : BitVec 64) (rest : List Event),
    s.host = .write a d :: .read b :: rest → mapped s.params.msgBytes a → a ≠ 0x0000 → a ≠ 0x0008 → a ≠ 0x0028 →
    b ≠ 0x0008 →
    ∃ t : State, Host.Core.run Sys2Proof.core 2 s = .next t ∧
      (b = a → a ≠ 0x0020 → t.responses = s.responses ++ [.ok, .data d]) ∧
      (b = a → a = 0x0020 → t.responses = s.responses ++ [.ok, .data (d &&& 0x1FF#64)]) ∧
      (b ≠ a → t.responses = s.responses ++ [.ok, s.hostRead b])

/-- R29, R33: the layouts of `STATUS` and `SEQ`, bit by bit. -/
def Obligations.StatusAndSeqLayouts : Prop :=
  ∀ (s : State) (b : Nat),
    (s.statusWord.getLsbD b =
      if b = 0 then s.DONE else if 4 ≤ b ∧ b ≤ 7 then s.ERR.code.getLsbD (b - 4) else false) ∧
    (s.seqWord.getLsbD b =
      if b ≤ 3 then s.IDX.getLsbD b else if 4 ≤ b ∧ b ≤ 8 then s.RND.getLsbD (b - 4) else false) ∧
    (s.ERR.code.toNat =
      match s.ERR with
      | .none => 0
      | .emptyInput => 1
      | .lengthRange => 2
      | .blockRange => 3
      | .illegalCommand => 4)

/-! ## The whole machine -/

/-- R191, R6, R50, R40: every step answers a next state; with no event to come nothing changes; a transaction gives
exactly one response and a reset none; no event changes the parameters. -/
def Obligations.EveryStepAnswersOneEvent : Prop :=
  ∀ s : State, ∃ t, step s = .next t ∧ t.params = s.params ∧ (s.host = [] → t = s) ∧
    (∀ e rest, s.host = e :: rest → t.host = rest ∧
      (e = .reset → t.responses = s.responses) ∧ (e ≠ .reset → ∃ r, t.responses = s.responses ++ [r]))

/-- R41, R180, R181: the values after reset, in `State.reset` and after a reset event in any state; the message memory
then lists nothing, and its bytes are those of the next draw of free values (the form of the draw is the model's:
assumptions 3 and 4). -/
def Obligations.ResetLeavesTheResetValues : Prop :=
  (∀ t : State, (t = State.reset ∨ ∃ s rest, s.host = .reset :: rest ∧ step s = .next t) →
    (∀ (k : Nat) (hk : k < 128), t.S[k] = 0#8) ∧ (∀ (j : Nat) (hj : j < 64), t.BLK[j] = 0#8) ∧
    t.LEN = 0#64 ∧ t.BLKIDX = 0#64 ∧ t.RND = 0#5 ∧ t.IDX = 0#4 ∧ t.RC = 0#64 ∧ t.X = 0#64 ∧
    t.DONE = false ∧ t.ERR = .none ∧ (∀ a, t.readMsg a = Config.msgUnspecified t.msgDraw a)) ∧
  (∀ (s : State) (rest : List Event), s.host = .reset :: rest →
    ∃ t, step s = .next t ∧ t.msgDraw ≠ s.msgDraw ∧ t.params = s.params ∧ t.host = rest)

/-- R34: `DONE` becomes 1 only in a step that executes a fault-free HASH, and becomes 0 in every step that accepts
another command than NOP and HASH, stores at the port, or resets. -/
def Obligations.DoneIsSetByHashAlone : Prop :=
  ∀ s t : State, step s = .next t →
    (t.DONE = true → s.DONE = false →
      ∃ rest, s.host = .write 0x0000 0x0000000040000000#64 :: rest ∧ s.ERR = .none ∧ t.ERR = .none) ∧
    (∀ d rest, s.host = .write 0x0000 d :: rest → s.ERR = .none → d ≠ 0#64 → d ≠ 0x0000000040000000#64 →
      t.DONE = false) ∧
    (∀ a d rest, s.host = .write a d :: rest → a ≠ 0x0000 → a ≠ 0x0008 → a ≠ 0x0028 →
      mapped s.params.msgBytes a → t.DONE = false) ∧
    (∀ rest, s.host = .reset :: rest → t.DONE = false)

/-- INVARIANT (R34, R185, R161, R162): while `DONE = 1`, no fault is pending and `S[0..63]` is the digest of
`MSG[0..LEN-1]`; every step of every run keeps it. -/
def Obligations.DigestValidIsKept : Prop :=
  ∀ s t : State, s.digestValid → step s = .next t → t.digestValid

/-- The invariant of `DigestValidIsKept` holds after reset. -/
def Obligations.DigestValidAtReset : Prop :=
  State.reset.digestValid

/-- INVARIANT (R8, R37): the parameters are ones R8 allows, the message memory is in canonical form and lies inside
`MSG_BYTES`; every step keeps it. The canonical form is the model's (assumption 3). -/
def Obligations.WellFormedIsKept : Prop :=
  ∀ s t : State, s.wf → step s = .next t → t.wf

/-- The invariant of `WellFormedIsKept` holds after reset. -/
def Obligations.WellFormedAtReset : Prop :=
  State.reset.wf

/-! ## The host's side (30_encoding.md R77, R78; 70_reset_and_hazards.md R182) -/

/-- R78: the events of `msg` store the message bytes and its length, each answered `ok`. -/
def Obligations.MsgScriptLoadsTheMessage : Prop :=
  ∀ (s : State) (bs : List Byte) (rest : List Event), s.params.wf = true → bs.length ≤ s.params.msgBytes →
    s.host = (Stmt.msg bs).events ++ rest →
    ∃ t : State, Host.Core.run Sys2Proof.core (Stmt.msg bs).events.length s = .next t ∧
      t.LEN = BitVec.ofNat 64 bs.length ∧ (∀ a, a < bs.length → t.readMsg a = bytesOf bs a) ∧
      (∀ a, (bs.length + 7) / 8 * 8 ≤ a → t.readMsg a = s.readMsg a) ∧
      t = { s with LEN := t.LEN, MSG := t.MSG, DONE := false, host := rest,
                   responses := s.responses ++ List.replicate (Stmt.msg bs).events.length .ok }

/-- R182: for every message of 1 to `MSG_BYTES` bytes and every state with no fault pending, the host's procedure (the
message, its length, HASH, then reading `STATUS` and `SW0` to `SW7`) reads `STATUS` = 1 and the 64 digest bytes. -/
def Obligations.HostProcedureReadsTheDigest : Prop :=
  ∀ (s : State) (bs : List Byte) (evs : List Event), s.params.wf = true → s.ERR = .none →
    1 ≤ bs.length → bs.length ≤ s.params.msgBytes →
    evs = scriptEvents [.msg bs, .cmd .hash, .rd .status, .digest] → s.host = evs →
    ∃ t : State, Host.Core.run Sys2Proof.core evs.length s = .next t ∧
      t.responses = s.responses ++ List.replicate ((bs.length + 7) / 8 + 2) .ok ++ [.data 1#64] ++
        (List.finRange 8).map (fun m =>
          .data (lanes (sihaHash s.params (bytesOf bs) bs.length) m.val (by omega)))

/-! ## The parameter STATE_HASH (00_scope.md R8) -/

/-- R8, R110, R111, R113: any total function from 128 bytes to `U64` can be an engine's `STATE_HASH`: for every such
function there is a value of the parameter with which RCGEN, in every state with no fault pending, writes the round
constant whose seed is that function of `S`, and nothing else but `DONE`. That the parameter's values are terms is the
model's choice (assumption 2). -/
def Obligations.AnyTotalFunctionCanBeTheStateHash : Prop :=
  ∀ f : Vector Byte 128 → BitVec 64, ∃ h : StateHash, ∀ s : State, s.ERR = .none → s.params.stateHash = h →
    ∃ t, exec .rcgen s = .next t ∧
      t.RC = (List.range 8).foldl (fun seed _ => (seed * 0x41C64E6D#64 + 0x3039#64).rotateLeft 17)
        ((List.finRange 128).foldl
          (fun seed i =>
            (seed ^^^ widen s.params.byteSigned s.S[i] * 0xA3B195354A39B70D#64).rotateLeft (i.val % 13 + 3))
          (f s.S ^^^ BitVec.ofNat 64 s.RND.toNat * 0x9E3779B97F4A7C15#64)) ∧
      t = { s with RC := t.RC, DONE := false } ∧ (∀ a, t.readMsg a = s.readMsg a)
end

