-- ==== Sys2Proof/Laws/Bits.lean ====
section
/-! SUPPORT. The operators of Machine/Bits.lean, bit by bit and byte by byte. -/

namespace Sys2Proof.Machine

theorem byteOf_getLsbD (x : Word) (k i : Nat) : (byteOf x k).getLsbD i = (decide (i < 8) && x.getLsbD (8 * k + i)) := by
  simp [byteOf, BitVec.getLsbD_extractLsb']

/-- Bit `8k + j` of `le64 b` is bit `j` of byte `k`. -/
theorem le64_getLsbD (b : Fin 8 → Byte) (k : Fin 8) (j : Nat) (hj : j < 8) :
    (le64 b).getLsbD (8 * k.val + j) = (b k).getLsbD j := by
  have h : ∀ i, (le64 b).getLsbD i =
      if i < 8 then (b 0).getLsbD i else if i < 16 then (b 1).getLsbD (i - 8)
      else if i < 24 then (b 2).getLsbD (i - 16) else if i < 32 then (b 3).getLsbD (i - 24)
      else if i < 40 then (b 4).getLsbD (i - 32) else if i < 48 then (b 5).getLsbD (i - 40)
      else if i < 56 then (b 6).getLsbD (i - 48) else (b 7).getLsbD (i - 56) := by
    intro i
    simp only [le64, BitVec.getLsbD_append]
    split <;> [rfl; skip]
    repeat' split
    all_goals first | omega | rfl
  rw [h]
  fin_cases k <;> simp <;> (repeat' split) <;> first | omega | rfl

@[simp] theorem byteOf_le64 (b : Fin 8 → Byte) (k : Fin 8) : byteOf (le64 b) k.val = b k := by
  apply BitVec.eq_of_getLsbD_eq
  intro j hj
  rw [byteOf_getLsbD, le64_getLsbD b k j hj]
  simp [hj]

theorem byteOf_le64_nat (b : Fin 8 → Byte) (k : Nat) (hk : k < 8) : byteOf (le64 b) k = b ⟨k, hk⟩ :=
  byteOf_le64 b ⟨k, hk⟩

/-- Two words with the same eight bytes are equal. -/
theorem word_ext {x y : Word} (h : ∀ k, k < 8 → byteOf x k = byteOf y k) : x = y := by
  apply BitVec.eq_of_getLsbD_eq
  intro i hi
  have hb := congrArg (fun b => b.getLsbD (i % 8)) (h (i / 8) (by omega))
  have h8 : i % 8 < 8 := Nat.mod_lt _ (by decide)
  simp only [byteOf_getLsbD, h8, decide_true, Bool.true_and] at hb
  rwa [Nat.div_add_mod] at hb

@[simp] theorem le64_byteOf (x : Word) : le64 (fun k => byteOf x k.val) = x :=
  word_ext fun k hk => byteOf_le64_nat _ k hk

theorem byteOf_be64 (b : Fin 8 → Byte) (k : Nat) (hk : k < 8) : byteOf (be64 b) k = b ⟨7 - k, by omega⟩ := by
  rw [be64, byteOf_le64_nat _ k hk]
  congr 1
  ext
  simp only [Fin.val_rev]
  omega

theorem byteOf_bswap64 (x : Word) (k : Nat) (hk : k < 8) : byteOf (bswap64 x) k = byteOf x (7 - k) :=
  byteOf_le64_nat _ k hk

@[simp] theorem bswap64_bswap64 (x : Word) : bswap64 (bswap64 x) = x :=
  word_ext fun k hk => by
    rw [byteOf_bswap64 _ k hk, byteOf_bswap64 _ (7 - k) (by omega)]
    congr 1
    omega

theorem byteOf_xor (x y : Word) (k : Nat) : byteOf (x ^^^ y) k = byteOf x k ^^^ byteOf y k := by
  apply BitVec.eq_of_getLsbD_eq
  intro i hi
  rw [BitVec.getLsbD_xor]
  simp only [byteOf_getLsbD, BitVec.getLsbD_xor, hi, decide_true, Bool.true_and]

theorem bswap64_xor (x y : Word) : bswap64 (x ^^^ y) = bswap64 x ^^^ bswap64 y :=
  word_ext fun k hk => by simp [byteOf_bswap64 _ k hk, byteOf_xor]

/-- `be64` is `le64` with the bytes reversed. -/
theorem be64_eq_bswap64 (b : Fin 8 → Byte) : be64 b = bswap64 (le64 b) :=
  word_ext fun k hk => by
    rw [byteOf_be64 _ k hk, byteOf_bswap64 _ k hk, byteOf_le64_nat _ (7 - k) (by omega)]

/-- `rotl64` is Lean's own rotation. -/
theorem rotl64_eq_rotateLeft (x : Word) (n : Nat) (hn : n < 64) : rotl64 x n = x.rotateLeft n := by
  simp [rotl64, shl64, lsr64, BitVec.rotateLeft, BitVec.rotateLeftAux, Nat.mod_eq_of_lt hn]

/-- `asr64` is Lean's own arithmetic shift. -/
theorem asr64_eq_sshiftRight (x : Word) (n : Nat) (hn : n ≤ 64) : asr64 x n = x.sshiftRight n := by
  apply BitVec.eq_of_getLsbD_eq
  intro i hi
  rw [BitVec.getLsbD_sshiftRight]
  unfold asr64
  have hm : x.msb = x.getLsbD 63 := by simp [BitVec.msb_eq_getLsbD_last]
  by_cases h63 : x.getLsbD 63 = true
  · simp only [h63, if_true, BitVec.getLsbD_or, lsr64, shl64, BitVec.getLsbD_ushiftRight,
      BitVec.getLsbD_shiftLeft, BitVec.getLsbD_allOnes, hm]
    by_cases hin : n + i < 64
    · have h2 : i < 64 - n := by omega
      simp [hin, hi, h2]
    · have h2 : ¬ i < 64 - n := by omega
      have h3 : x.getLsbD (n + i) = false := BitVec.getLsbD_of_ge _ _ (by omega)
      have h4 : i - (64 - n) < 64 := by omega
      simp [hin, hi, h2, h3, h4]
  · simp only [h63, lsr64, hm]
    by_cases hin : n + i < 64
    · simp [hin, hi]
    · have h3 : x.getLsbD (n + i) = false := BitVec.getLsbD_of_ge _ _ (by omega)
      simp [hin, hi, h3]

end Sys2Proof.Machine
end

