-- ==== Sys2Proof/Laws/State.lean ====
section
/-! SUPPORT. One lemma per field per named update of the state, each true by `rfl` (in parentheses, so that
simp rewrites with it and leaves no large definitional equality to the kernel), so that no proof unfolds a record
update: the updates of Machine/State.lean, the flag updates, fault entry, CLEAR and reset. -/

namespace Sys2Proof.Machine

/-! `withS` -/

@[simp] theorem State.withS_S (s : State) (v : Vector Byte 128) : (s.withS v).S = v := (rfl)
@[simp] theorem State.withS_BLK (s : State) (v : Vector Byte 128) : (s.withS v).BLK = s.BLK := (rfl)
@[simp] theorem State.withS_LEN (s : State) (v : Vector Byte 128) : (s.withS v).LEN = s.LEN := (rfl)
@[simp] theorem State.withS_BLKIDX (s : State) (v : Vector Byte 128) : (s.withS v).BLKIDX = s.BLKIDX := (rfl)
@[simp] theorem State.withS_RND (s : State) (v : Vector Byte 128) : (s.withS v).RND = s.RND := (rfl)
@[simp] theorem State.withS_IDX (s : State) (v : Vector Byte 128) : (s.withS v).IDX = s.IDX := (rfl)
@[simp] theorem State.withS_RC (s : State) (v : Vector Byte 128) : (s.withS v).RC = s.RC := (rfl)
@[simp] theorem State.withS_X (s : State) (v : Vector Byte 128) : (s.withS v).X = s.X := (rfl)
@[simp] theorem State.withS_DONE (s : State) (v : Vector Byte 128) : (s.withS v).DONE = s.DONE := (rfl)
@[simp] theorem State.withS_ERR (s : State) (v : Vector Byte 128) : (s.withS v).ERR = s.ERR := (rfl)
@[simp] theorem State.withS_MSG (s : State) (v : Vector Byte 128) : (s.withS v).MSG = s.MSG := (rfl)
@[simp] theorem State.withS_msgDraw (s : State) (v : Vector Byte 128) : (s.withS v).msgDraw = s.msgDraw := (rfl)
@[simp] theorem State.withS_params (s : State) (v : Vector Byte 128) : (s.withS v).params = s.params := (rfl)
@[simp] theorem State.withS_host (s : State) (v : Vector Byte 128) : (s.withS v).host = s.host := (rfl)
@[simp] theorem State.withS_responses (s : State) (v : Vector Byte 128) : (s.withS v).responses = s.responses := (rfl)

/-! `withBLK` -/

@[simp] theorem State.withBLK_S (s : State) (v : Vector Byte 64) : (s.withBLK v).S = s.S := (rfl)
@[simp] theorem State.withBLK_BLK (s : State) (v : Vector Byte 64) : (s.withBLK v).BLK = v := (rfl)
@[simp] theorem State.withBLK_LEN (s : State) (v : Vector Byte 64) : (s.withBLK v).LEN = s.LEN := (rfl)
@[simp] theorem State.withBLK_BLKIDX (s : State) (v : Vector Byte 64) : (s.withBLK v).BLKIDX = s.BLKIDX := (rfl)
@[simp] theorem State.withBLK_RND (s : State) (v : Vector Byte 64) : (s.withBLK v).RND = s.RND := (rfl)
@[simp] theorem State.withBLK_IDX (s : State) (v : Vector Byte 64) : (s.withBLK v).IDX = s.IDX := (rfl)
@[simp] theorem State.withBLK_RC (s : State) (v : Vector Byte 64) : (s.withBLK v).RC = s.RC := (rfl)
@[simp] theorem State.withBLK_X (s : State) (v : Vector Byte 64) : (s.withBLK v).X = s.X := (rfl)
@[simp] theorem State.withBLK_DONE (s : State) (v : Vector Byte 64) : (s.withBLK v).DONE = s.DONE := (rfl)
@[simp] theorem State.withBLK_ERR (s : State) (v : Vector Byte 64) : (s.withBLK v).ERR = s.ERR := (rfl)
@[simp] theorem State.withBLK_MSG (s : State) (v : Vector Byte 64) : (s.withBLK v).MSG = s.MSG := (rfl)
@[simp] theorem State.withBLK_msgDraw (s : State) (v : Vector Byte 64) : (s.withBLK v).msgDraw = s.msgDraw := (rfl)
@[simp] theorem State.withBLK_params (s : State) (v : Vector Byte 64) : (s.withBLK v).params = s.params := (rfl)
@[simp] theorem State.withBLK_host (s : State) (v : Vector Byte 64) : (s.withBLK v).host = s.host := (rfl)
@[simp] theorem State.withBLK_responses (s : State) (v : Vector Byte 64) : (s.withBLK v).responses = s.responses := (rfl)

/-! `withLEN` -/

@[simp] theorem State.withLEN_S (s : State) (v : Word) : (s.withLEN v).S = s.S := (rfl)
@[simp] theorem State.withLEN_BLK (s : State) (v : Word) : (s.withLEN v).BLK = s.BLK := (rfl)
@[simp] theorem State.withLEN_LEN (s : State) (v : Word) : (s.withLEN v).LEN = v := (rfl)
@[simp] theorem State.withLEN_BLKIDX (s : State) (v : Word) : (s.withLEN v).BLKIDX = s.BLKIDX := (rfl)
@[simp] theorem State.withLEN_RND (s : State) (v : Word) : (s.withLEN v).RND = s.RND := (rfl)
@[simp] theorem State.withLEN_IDX (s : State) (v : Word) : (s.withLEN v).IDX = s.IDX := (rfl)
@[simp] theorem State.withLEN_RC (s : State) (v : Word) : (s.withLEN v).RC = s.RC := (rfl)
@[simp] theorem State.withLEN_X (s : State) (v : Word) : (s.withLEN v).X = s.X := (rfl)
@[simp] theorem State.withLEN_DONE (s : State) (v : Word) : (s.withLEN v).DONE = s.DONE := (rfl)
@[simp] theorem State.withLEN_ERR (s : State) (v : Word) : (s.withLEN v).ERR = s.ERR := (rfl)
@[simp] theorem State.withLEN_MSG (s : State) (v : Word) : (s.withLEN v).MSG = s.MSG := (rfl)
@[simp] theorem State.withLEN_msgDraw (s : State) (v : Word) : (s.withLEN v).msgDraw = s.msgDraw := (rfl)
@[simp] theorem State.withLEN_params (s : State) (v : Word) : (s.withLEN v).params = s.params := (rfl)
@[simp] theorem State.withLEN_host (s : State) (v : Word) : (s.withLEN v).host = s.host := (rfl)
@[simp] theorem State.withLEN_responses (s : State) (v : Word) : (s.withLEN v).responses = s.responses := (rfl)

/-! `withBLKIDX` -/

@[simp] theorem State.withBLKIDX_S (s : State) (v : Word) : (s.withBLKIDX v).S = s.S := (rfl)
@[simp] theorem State.withBLKIDX_BLK (s : State) (v : Word) : (s.withBLKIDX v).BLK = s.BLK := (rfl)
@[simp] theorem State.withBLKIDX_LEN (s : State) (v : Word) : (s.withBLKIDX v).LEN = s.LEN := (rfl)
@[simp] theorem State.withBLKIDX_BLKIDX (s : State) (v : Word) : (s.withBLKIDX v).BLKIDX = v := (rfl)
@[simp] theorem State.withBLKIDX_RND (s : State) (v : Word) : (s.withBLKIDX v).RND = s.RND := (rfl)
@[simp] theorem State.withBLKIDX_IDX (s : State) (v : Word) : (s.withBLKIDX v).IDX = s.IDX := (rfl)
@[simp] theorem State.withBLKIDX_RC (s : State) (v : Word) : (s.withBLKIDX v).RC = s.RC := (rfl)
@[simp] theorem State.withBLKIDX_X (s : State) (v : Word) : (s.withBLKIDX v).X = s.X := (rfl)
@[simp] theorem State.withBLKIDX_DONE (s : State) (v : Word) : (s.withBLKIDX v).DONE = s.DONE := (rfl)
@[simp] theorem State.withBLKIDX_ERR (s : State) (v : Word) : (s.withBLKIDX v).ERR = s.ERR := (rfl)
@[simp] theorem State.withBLKIDX_MSG (s : State) (v : Word) : (s.withBLKIDX v).MSG = s.MSG := (rfl)
@[simp] theorem State.withBLKIDX_msgDraw (s : State) (v : Word) : (s.withBLKIDX v).msgDraw = s.msgDraw := (rfl)
@[simp] theorem State.withBLKIDX_params (s : State) (v : Word) : (s.withBLKIDX v).params = s.params := (rfl)
@[simp] theorem State.withBLKIDX_host (s : State) (v : Word) : (s.withBLKIDX v).host = s.host := (rfl)
@[simp] theorem State.withBLKIDX_responses (s : State) (v : Word) : (s.withBLKIDX v).responses = s.responses := (rfl)

/-! `withSEQ` -/

@[simp] theorem State.withSEQ_S (s : State) (r : BitVec 5) (i : BitVec 4) : (s.withSEQ r i).S = s.S := (rfl)
@[simp] theorem State.withSEQ_BLK (s : State) (r : BitVec 5) (i : BitVec 4) : (s.withSEQ r i).BLK = s.BLK := (rfl)
@[simp] theorem State.withSEQ_LEN (s : State) (r : BitVec 5) (i : BitVec 4) : (s.withSEQ r i).LEN = s.LEN := (rfl)
@[simp] theorem State.withSEQ_BLKIDX (s : State) (r : BitVec 5) (i : BitVec 4) : (s.withSEQ r i).BLKIDX = s.BLKIDX := (rfl)
@[simp] theorem State.withSEQ_RND (s : State) (r : BitVec 5) (i : BitVec 4) : (s.withSEQ r i).RND = r := (rfl)
@[simp] theorem State.withSEQ_IDX (s : State) (r : BitVec 5) (i : BitVec 4) : (s.withSEQ r i).IDX = i := (rfl)
@[simp] theorem State.withSEQ_RC (s : State) (r : BitVec 5) (i : BitVec 4) : (s.withSEQ r i).RC = s.RC := (rfl)
@[simp] theorem State.withSEQ_X (s : State) (r : BitVec 5) (i : BitVec 4) : (s.withSEQ r i).X = s.X := (rfl)
@[simp] theorem State.withSEQ_DONE (s : State) (r : BitVec 5) (i : BitVec 4) : (s.withSEQ r i).DONE = s.DONE := (rfl)
@[simp] theorem State.withSEQ_ERR (s : State) (r : BitVec 5) (i : BitVec 4) : (s.withSEQ r i).ERR = s.ERR := (rfl)
@[simp] theorem State.withSEQ_MSG (s : State) (r : BitVec 5) (i : BitVec 4) : (s.withSEQ r i).MSG = s.MSG := (rfl)
@[simp] theorem State.withSEQ_msgDraw (s : State) (r : BitVec 5) (i : BitVec 4) : (s.withSEQ r i).msgDraw = s.msgDraw := (rfl)
@[simp] theorem State.withSEQ_params (s : State) (r : BitVec 5) (i : BitVec 4) : (s.withSEQ r i).params = s.params := (rfl)
@[simp] theorem State.withSEQ_host (s : State) (r : BitVec 5) (i : BitVec 4) : (s.withSEQ r i).host = s.host := (rfl)
@[simp] theorem State.withSEQ_responses (s : State) (r : BitVec 5) (i : BitVec 4) : (s.withSEQ r i).responses = s.responses := (rfl)

/-! `withRC` -/

@[simp] theorem State.withRC_S (s : State) (v : Word) : (s.withRC v).S = s.S := (rfl)
@[simp] theorem State.withRC_BLK (s : State) (v : Word) : (s.withRC v).BLK = s.BLK := (rfl)
@[simp] theorem State.withRC_LEN (s : State) (v : Word) : (s.withRC v).LEN = s.LEN := (rfl)
@[simp] theorem State.withRC_BLKIDX (s : State) (v : Word) : (s.withRC v).BLKIDX = s.BLKIDX := (rfl)
@[simp] theorem State.withRC_RND (s : State) (v : Word) : (s.withRC v).RND = s.RND := (rfl)
@[simp] theorem State.withRC_IDX (s : State) (v : Word) : (s.withRC v).IDX = s.IDX := (rfl)
@[simp] theorem State.withRC_RC (s : State) (v : Word) : (s.withRC v).RC = v := (rfl)
@[simp] theorem State.withRC_X (s : State) (v : Word) : (s.withRC v).X = s.X := (rfl)
@[simp] theorem State.withRC_DONE (s : State) (v : Word) : (s.withRC v).DONE = s.DONE := (rfl)
@[simp] theorem State.withRC_ERR (s : State) (v : Word) : (s.withRC v).ERR = s.ERR := (rfl)
@[simp] theorem State.withRC_MSG (s : State) (v : Word) : (s.withRC v).MSG = s.MSG := (rfl)
@[simp] theorem State.withRC_msgDraw (s : State) (v : Word) : (s.withRC v).msgDraw = s.msgDraw := (rfl)
@[simp] theorem State.withRC_params (s : State) (v : Word) : (s.withRC v).params = s.params := (rfl)
@[simp] theorem State.withRC_host (s : State) (v : Word) : (s.withRC v).host = s.host := (rfl)
@[simp] theorem State.withRC_responses (s : State) (v : Word) : (s.withRC v).responses = s.responses := (rfl)

/-! `withX` -/

@[simp] theorem State.withX_S (s : State) (v : Word) : (s.withX v).S = s.S := (rfl)
@[simp] theorem State.withX_BLK (s : State) (v : Word) : (s.withX v).BLK = s.BLK := (rfl)
@[simp] theorem State.withX_LEN (s : State) (v : Word) : (s.withX v).LEN = s.LEN := (rfl)
@[simp] theorem State.withX_BLKIDX (s : State) (v : Word) : (s.withX v).BLKIDX = s.BLKIDX := (rfl)
@[simp] theorem State.withX_RND (s : State) (v : Word) : (s.withX v).RND = s.RND := (rfl)
@[simp] theorem State.withX_IDX (s : State) (v : Word) : (s.withX v).IDX = s.IDX := (rfl)
@[simp] theorem State.withX_RC (s : State) (v : Word) : (s.withX v).RC = s.RC := (rfl)
@[simp] theorem State.withX_X (s : State) (v : Word) : (s.withX v).X = v := (rfl)
@[simp] theorem State.withX_DONE (s : State) (v : Word) : (s.withX v).DONE = s.DONE := (rfl)
@[simp] theorem State.withX_ERR (s : State) (v : Word) : (s.withX v).ERR = s.ERR := (rfl)
@[simp] theorem State.withX_MSG (s : State) (v : Word) : (s.withX v).MSG = s.MSG := (rfl)
@[simp] theorem State.withX_msgDraw (s : State) (v : Word) : (s.withX v).msgDraw = s.msgDraw := (rfl)
@[simp] theorem State.withX_params (s : State) (v : Word) : (s.withX v).params = s.params := (rfl)
@[simp] theorem State.withX_host (s : State) (v : Word) : (s.withX v).host = s.host := (rfl)
@[simp] theorem State.withX_responses (s : State) (v : Word) : (s.withX v).responses = s.responses := (rfl)

/-! `withDONE` -/

@[simp] theorem State.withDONE_S (s : State) (b : Bool) : (s.withDONE b).S = s.S := (rfl)
@[simp] theorem State.withDONE_BLK (s : State) (b : Bool) : (s.withDONE b).BLK = s.BLK := (rfl)
@[simp] theorem State.withDONE_LEN (s : State) (b : Bool) : (s.withDONE b).LEN = s.LEN := (rfl)
@[simp] theorem State.withDONE_BLKIDX (s : State) (b : Bool) : (s.withDONE b).BLKIDX = s.BLKIDX := (rfl)
@[simp] theorem State.withDONE_RND (s : State) (b : Bool) : (s.withDONE b).RND = s.RND := (rfl)
@[simp] theorem State.withDONE_IDX (s : State) (b : Bool) : (s.withDONE b).IDX = s.IDX := (rfl)
@[simp] theorem State.withDONE_RC (s : State) (b : Bool) : (s.withDONE b).RC = s.RC := (rfl)
@[simp] theorem State.withDONE_X (s : State) (b : Bool) : (s.withDONE b).X = s.X := (rfl)
@[simp] theorem State.withDONE_DONE (s : State) (b : Bool) : (s.withDONE b).DONE = b := (rfl)
@[simp] theorem State.withDONE_ERR (s : State) (b : Bool) : (s.withDONE b).ERR = s.ERR := (rfl)
@[simp] theorem State.withDONE_MSG (s : State) (b : Bool) : (s.withDONE b).MSG = s.MSG := (rfl)
@[simp] theorem State.withDONE_msgDraw (s : State) (b : Bool) : (s.withDONE b).msgDraw = s.msgDraw := (rfl)
@[simp] theorem State.withDONE_params (s : State) (b : Bool) : (s.withDONE b).params = s.params := (rfl)
@[simp] theorem State.withDONE_host (s : State) (b : Bool) : (s.withDONE b).host = s.host := (rfl)
@[simp] theorem State.withDONE_responses (s : State) (b : Bool) : (s.withDONE b).responses = s.responses := (rfl)

/-! `withERR` -/

@[simp] theorem State.withERR_S (s : State) (e : ErrCode) : (s.withERR e).S = s.S := (rfl)
@[simp] theorem State.withERR_BLK (s : State) (e : ErrCode) : (s.withERR e).BLK = s.BLK := (rfl)
@[simp] theorem State.withERR_LEN (s : State) (e : ErrCode) : (s.withERR e).LEN = s.LEN := (rfl)
@[simp] theorem State.withERR_BLKIDX (s : State) (e : ErrCode) : (s.withERR e).BLKIDX = s.BLKIDX := (rfl)
@[simp] theorem State.withERR_RND (s : State) (e : ErrCode) : (s.withERR e).RND = s.RND := (rfl)
@[simp] theorem State.withERR_IDX (s : State) (e : ErrCode) : (s.withERR e).IDX = s.IDX := (rfl)
@[simp] theorem State.withERR_RC (s : State) (e : ErrCode) : (s.withERR e).RC = s.RC := (rfl)
@[simp] theorem State.withERR_X (s : State) (e : ErrCode) : (s.withERR e).X = s.X := (rfl)
@[simp] theorem State.withERR_DONE (s : State) (e : ErrCode) : (s.withERR e).DONE = s.DONE := (rfl)
@[simp] theorem State.withERR_ERR (s : State) (e : ErrCode) : (s.withERR e).ERR = e := (rfl)
@[simp] theorem State.withERR_MSG (s : State) (e : ErrCode) : (s.withERR e).MSG = s.MSG := (rfl)
@[simp] theorem State.withERR_msgDraw (s : State) (e : ErrCode) : (s.withERR e).msgDraw = s.msgDraw := (rfl)
@[simp] theorem State.withERR_params (s : State) (e : ErrCode) : (s.withERR e).params = s.params := (rfl)
@[simp] theorem State.withERR_host (s : State) (e : ErrCode) : (s.withERR e).host = s.host := (rfl)
@[simp] theorem State.withERR_responses (s : State) (e : ErrCode) : (s.withERR e).responses = s.responses := (rfl)

/-! `withMSG` -/

@[simp] theorem State.withMSG_S (s : State) (m : Memory) : (s.withMSG m).S = s.S := (rfl)
@[simp] theorem State.withMSG_BLK (s : State) (m : Memory) : (s.withMSG m).BLK = s.BLK := (rfl)
@[simp] theorem State.withMSG_LEN (s : State) (m : Memory) : (s.withMSG m).LEN = s.LEN := (rfl)
@[simp] theorem State.withMSG_BLKIDX (s : State) (m : Memory) : (s.withMSG m).BLKIDX = s.BLKIDX := (rfl)
@[simp] theorem State.withMSG_RND (s : State) (m : Memory) : (s.withMSG m).RND = s.RND := (rfl)
@[simp] theorem State.withMSG_IDX (s : State) (m : Memory) : (s.withMSG m).IDX = s.IDX := (rfl)
@[simp] theorem State.withMSG_RC (s : State) (m : Memory) : (s.withMSG m).RC = s.RC := (rfl)
@[simp] theorem State.withMSG_X (s : State) (m : Memory) : (s.withMSG m).X = s.X := (rfl)
@[simp] theorem State.withMSG_DONE (s : State) (m : Memory) : (s.withMSG m).DONE = s.DONE := (rfl)
@[simp] theorem State.withMSG_ERR (s : State) (m : Memory) : (s.withMSG m).ERR = s.ERR := (rfl)
@[simp] theorem State.withMSG_MSG (s : State) (m : Memory) : (s.withMSG m).MSG = m := (rfl)
@[simp] theorem State.withMSG_msgDraw (s : State) (m : Memory) : (s.withMSG m).msgDraw = s.msgDraw := (rfl)
@[simp] theorem State.withMSG_params (s : State) (m : Memory) : (s.withMSG m).params = s.params := (rfl)
@[simp] theorem State.withMSG_host (s : State) (m : Memory) : (s.withMSG m).host = s.host := (rfl)
@[simp] theorem State.withMSG_responses (s : State) (m : Memory) : (s.withMSG m).responses = s.responses := (rfl)

/-! `withHost` -/

@[simp] theorem State.withHost_S (s : State) (es : List Event) : (s.withHost es).S = s.S := (rfl)
@[simp] theorem State.withHost_BLK (s : State) (es : List Event) : (s.withHost es).BLK = s.BLK := (rfl)
@[simp] theorem State.withHost_LEN (s : State) (es : List Event) : (s.withHost es).LEN = s.LEN := (rfl)
@[simp] theorem State.withHost_BLKIDX (s : State) (es : List Event) : (s.withHost es).BLKIDX = s.BLKIDX := (rfl)
@[simp] theorem State.withHost_RND (s : State) (es : List Event) : (s.withHost es).RND = s.RND := (rfl)
@[simp] theorem State.withHost_IDX (s : State) (es : List Event) : (s.withHost es).IDX = s.IDX := (rfl)
@[simp] theorem State.withHost_RC (s : State) (es : List Event) : (s.withHost es).RC = s.RC := (rfl)
@[simp] theorem State.withHost_X (s : State) (es : List Event) : (s.withHost es).X = s.X := (rfl)
@[simp] theorem State.withHost_DONE (s : State) (es : List Event) : (s.withHost es).DONE = s.DONE := (rfl)
@[simp] theorem State.withHost_ERR (s : State) (es : List Event) : (s.withHost es).ERR = s.ERR := (rfl)
@[simp] theorem State.withHost_MSG (s : State) (es : List Event) : (s.withHost es).MSG = s.MSG := (rfl)
@[simp] theorem State.withHost_msgDraw (s : State) (es : List Event) : (s.withHost es).msgDraw = s.msgDraw := (rfl)
@[simp] theorem State.withHost_params (s : State) (es : List Event) : (s.withHost es).params = s.params := (rfl)
@[simp] theorem State.withHost_host (s : State) (es : List Event) : (s.withHost es).host = es := (rfl)
@[simp] theorem State.withHost_responses (s : State) (es : List Event) : (s.withHost es).responses = s.responses := (rfl)

/-! `respond` -/

@[simp] theorem State.respond_S (s : State) (r : Response) : (s.respond r).S = s.S := (rfl)
@[simp] theorem State.respond_BLK (s : State) (r : Response) : (s.respond r).BLK = s.BLK := (rfl)
@[simp] theorem State.respond_LEN (s : State) (r : Response) : (s.respond r).LEN = s.LEN := (rfl)
@[simp] theorem State.respond_BLKIDX (s : State) (r : Response) : (s.respond r).BLKIDX = s.BLKIDX := (rfl)
@[simp] theorem State.respond_RND (s : State) (r : Response) : (s.respond r).RND = s.RND := (rfl)
@[simp] theorem State.respond_IDX (s : State) (r : Response) : (s.respond r).IDX = s.IDX := (rfl)
@[simp] theorem State.respond_RC (s : State) (r : Response) : (s.respond r).RC = s.RC := (rfl)
@[simp] theorem State.respond_X (s : State) (r : Response) : (s.respond r).X = s.X := (rfl)
@[simp] theorem State.respond_DONE (s : State) (r : Response) : (s.respond r).DONE = s.DONE := (rfl)
@[simp] theorem State.respond_ERR (s : State) (r : Response) : (s.respond r).ERR = s.ERR := (rfl)
@[simp] theorem State.respond_MSG (s : State) (r : Response) : (s.respond r).MSG = s.MSG := (rfl)
@[simp] theorem State.respond_msgDraw (s : State) (r : Response) : (s.respond r).msgDraw = s.msgDraw := (rfl)
@[simp] theorem State.respond_params (s : State) (r : Response) : (s.respond r).params = s.params := (rfl)
@[simp] theorem State.respond_host (s : State) (r : Response) : (s.respond r).host = s.host := (rfl)
@[simp] theorem State.respond_responses (s : State) (r : Response) : (s.respond r).responses = s.responses ++ [r] := (rfl)

/-! `clearDone` -/

@[simp] theorem State.clearDone_S (s : State) : (s.clearDone).S = s.S := (rfl)
@[simp] theorem State.clearDone_BLK (s : State) : (s.clearDone).BLK = s.BLK := (rfl)
@[simp] theorem State.clearDone_LEN (s : State) : (s.clearDone).LEN = s.LEN := (rfl)
@[simp] theorem State.clearDone_BLKIDX (s : State) : (s.clearDone).BLKIDX = s.BLKIDX := (rfl)
@[simp] theorem State.clearDone_RND (s : State) : (s.clearDone).RND = s.RND := (rfl)
@[simp] theorem State.clearDone_IDX (s : State) : (s.clearDone).IDX = s.IDX := (rfl)
@[simp] theorem State.clearDone_RC (s : State) : (s.clearDone).RC = s.RC := (rfl)
@[simp] theorem State.clearDone_X (s : State) : (s.clearDone).X = s.X := (rfl)
@[simp] theorem State.clearDone_DONE (s : State) : (s.clearDone).DONE = false := (rfl)
@[simp] theorem State.clearDone_ERR (s : State) : (s.clearDone).ERR = s.ERR := (rfl)
@[simp] theorem State.clearDone_MSG (s : State) : (s.clearDone).MSG = s.MSG := (rfl)
@[simp] theorem State.clearDone_msgDraw (s : State) : (s.clearDone).msgDraw = s.msgDraw := (rfl)
@[simp] theorem State.clearDone_params (s : State) : (s.clearDone).params = s.params := (rfl)
@[simp] theorem State.clearDone_host (s : State) : (s.clearDone).host = s.host := (rfl)
@[simp] theorem State.clearDone_responses (s : State) : (s.clearDone).responses = s.responses := (rfl)

/-! `setDone` -/

@[simp] theorem State.setDone_S (s : State) : (s.setDone).S = s.S := (rfl)
@[simp] theorem State.setDone_BLK (s : State) : (s.setDone).BLK = s.BLK := (rfl)
@[simp] theorem State.setDone_LEN (s : State) : (s.setDone).LEN = s.LEN := (rfl)
@[simp] theorem State.setDone_BLKIDX (s : State) : (s.setDone).BLKIDX = s.BLKIDX := (rfl)
@[simp] theorem State.setDone_RND (s : State) : (s.setDone).RND = s.RND := (rfl)
@[simp] theorem State.setDone_IDX (s : State) : (s.setDone).IDX = s.IDX := (rfl)
@[simp] theorem State.setDone_RC (s : State) : (s.setDone).RC = s.RC := (rfl)
@[simp] theorem State.setDone_X (s : State) : (s.setDone).X = s.X := (rfl)
@[simp] theorem State.setDone_DONE (s : State) : (s.setDone).DONE = true := (rfl)
@[simp] theorem State.setDone_ERR (s : State) : (s.setDone).ERR = s.ERR := (rfl)
@[simp] theorem State.setDone_MSG (s : State) : (s.setDone).MSG = s.MSG := (rfl)
@[simp] theorem State.setDone_msgDraw (s : State) : (s.setDone).msgDraw = s.msgDraw := (rfl)
@[simp] theorem State.setDone_params (s : State) : (s.setDone).params = s.params := (rfl)
@[simp] theorem State.setDone_host (s : State) : (s.setDone).host = s.host := (rfl)
@[simp] theorem State.setDone_responses (s : State) : (s.setDone).responses = s.responses := (rfl)

/-! `raiseFault` -/

@[simp] theorem State.raiseFault_S (s : State) (e : ErrCode) : (s.raiseFault e).S = s.S := (rfl)
@[simp] theorem State.raiseFault_BLK (s : State) (e : ErrCode) : (s.raiseFault e).BLK = s.BLK := (rfl)
@[simp] theorem State.raiseFault_LEN (s : State) (e : ErrCode) : (s.raiseFault e).LEN = s.LEN := (rfl)
@[simp] theorem State.raiseFault_BLKIDX (s : State) (e : ErrCode) : (s.raiseFault e).BLKIDX = s.BLKIDX := (rfl)
@[simp] theorem State.raiseFault_RND (s : State) (e : ErrCode) : (s.raiseFault e).RND = s.RND := (rfl)
@[simp] theorem State.raiseFault_IDX (s : State) (e : ErrCode) : (s.raiseFault e).IDX = s.IDX := (rfl)
@[simp] theorem State.raiseFault_RC (s : State) (e : ErrCode) : (s.raiseFault e).RC = s.RC := (rfl)
@[simp] theorem State.raiseFault_X (s : State) (e : ErrCode) : (s.raiseFault e).X = s.X := (rfl)
@[simp] theorem State.raiseFault_DONE (s : State) (e : ErrCode) : (s.raiseFault e).DONE = false := (rfl)
@[simp] theorem State.raiseFault_ERR (s : State) (e : ErrCode) : (s.raiseFault e).ERR = e := (rfl)
@[simp] theorem State.raiseFault_MSG (s : State) (e : ErrCode) : (s.raiseFault e).MSG = s.MSG := (rfl)
@[simp] theorem State.raiseFault_msgDraw (s : State) (e : ErrCode) : (s.raiseFault e).msgDraw = s.msgDraw := (rfl)
@[simp] theorem State.raiseFault_params (s : State) (e : ErrCode) : (s.raiseFault e).params = s.params := (rfl)
@[simp] theorem State.raiseFault_host (s : State) (e : ErrCode) : (s.raiseFault e).host = s.host := (rfl)
@[simp] theorem State.raiseFault_responses (s : State) (e : ErrCode) : (s.raiseFault e).responses = s.responses := (rfl)

/-! `clearRegisters` -/

@[simp] theorem State.clearRegisters_S (s : State) : (s.clearRegisters).S = Vector.replicate 128 0#8 := (rfl)
@[simp] theorem State.clearRegisters_BLK (s : State) : (s.clearRegisters).BLK = Vector.replicate 64 0#8 := (rfl)
@[simp] theorem State.clearRegisters_LEN (s : State) : (s.clearRegisters).LEN = 0#64 := (rfl)
@[simp] theorem State.clearRegisters_BLKIDX (s : State) : (s.clearRegisters).BLKIDX = 0#64 := (rfl)
@[simp] theorem State.clearRegisters_RND (s : State) : (s.clearRegisters).RND = 0#5 := (rfl)
@[simp] theorem State.clearRegisters_IDX (s : State) : (s.clearRegisters).IDX = 0#4 := (rfl)
@[simp] theorem State.clearRegisters_RC (s : State) : (s.clearRegisters).RC = 0#64 := (rfl)
@[simp] theorem State.clearRegisters_X (s : State) : (s.clearRegisters).X = 0#64 := (rfl)
@[simp] theorem State.clearRegisters_DONE (s : State) : (s.clearRegisters).DONE = false := (rfl)
@[simp] theorem State.clearRegisters_ERR (s : State) : (s.clearRegisters).ERR = .none := (rfl)
@[simp] theorem State.clearRegisters_MSG (s : State) : (s.clearRegisters).MSG = s.MSG := (rfl)
@[simp] theorem State.clearRegisters_msgDraw (s : State) : (s.clearRegisters).msgDraw = s.msgDraw := (rfl)
@[simp] theorem State.clearRegisters_params (s : State) : (s.clearRegisters).params = s.params := (rfl)
@[simp] theorem State.clearRegisters_host (s : State) : (s.clearRegisters).host = s.host := (rfl)
@[simp] theorem State.clearRegisters_responses (s : State) : (s.clearRegisters).responses = s.responses := (rfl)

/-! `resetEngine` -/

@[simp] theorem State.resetEngine_S (s : State) : (s.resetEngine).S = Vector.replicate 128 0#8 := (rfl)
@[simp] theorem State.resetEngine_BLK (s : State) : (s.resetEngine).BLK = Vector.replicate 64 0#8 := (rfl)
@[simp] theorem State.resetEngine_LEN (s : State) : (s.resetEngine).LEN = 0#64 := (rfl)
@[simp] theorem State.resetEngine_BLKIDX (s : State) : (s.resetEngine).BLKIDX = 0#64 := (rfl)
@[simp] theorem State.resetEngine_RND (s : State) : (s.resetEngine).RND = 0#5 := (rfl)
@[simp] theorem State.resetEngine_IDX (s : State) : (s.resetEngine).IDX = 0#4 := (rfl)
@[simp] theorem State.resetEngine_RC (s : State) : (s.resetEngine).RC = 0#64 := (rfl)
@[simp] theorem State.resetEngine_X (s : State) : (s.resetEngine).X = 0#64 := (rfl)
@[simp] theorem State.resetEngine_DONE (s : State) : (s.resetEngine).DONE = false := (rfl)
@[simp] theorem State.resetEngine_ERR (s : State) : (s.resetEngine).ERR = .none := (rfl)
@[simp] theorem State.resetEngine_MSG (s : State) : (s.resetEngine).MSG = [] := (rfl)
@[simp] theorem State.resetEngine_msgDraw (s : State) : (s.resetEngine).msgDraw = s.msgDraw + 1 := (rfl)
@[simp] theorem State.resetEngine_params (s : State) : (s.resetEngine).params = s.params := (rfl)
@[simp] theorem State.resetEngine_host (s : State) : (s.resetEngine).host = s.host := (rfl)
@[simp] theorem State.resetEngine_responses (s : State) : (s.resetEngine).responses = s.responses := (rfl)

/-! The byte read of the message memory looks at `MSG` and `msgDraw` only. -/

@[simp] theorem State.withS_readMsg (s : State) (v : Vector Byte 128) : (s.withS v).readMsg = s.readMsg := (rfl)
@[simp] theorem State.withBLK_readMsg (s : State) (v : Vector Byte 64) : (s.withBLK v).readMsg = s.readMsg := (rfl)
@[simp] theorem State.withLEN_readMsg (s : State) (v : Word) : (s.withLEN v).readMsg = s.readMsg := (rfl)
@[simp] theorem State.withBLKIDX_readMsg (s : State) (v : Word) : (s.withBLKIDX v).readMsg = s.readMsg := (rfl)
@[simp] theorem State.withSEQ_readMsg (s : State) (r : BitVec 5) (i : BitVec 4) : (s.withSEQ r i).readMsg = s.readMsg := (rfl)
@[simp] theorem State.withRC_readMsg (s : State) (v : Word) : (s.withRC v).readMsg = s.readMsg := (rfl)
@[simp] theorem State.withX_readMsg (s : State) (v : Word) : (s.withX v).readMsg = s.readMsg := (rfl)
@[simp] theorem State.withDONE_readMsg (s : State) (b : Bool) : (s.withDONE b).readMsg = s.readMsg := (rfl)
@[simp] theorem State.withERR_readMsg (s : State) (e : ErrCode) : (s.withERR e).readMsg = s.readMsg := (rfl)
@[simp] theorem State.withHost_readMsg (s : State) (es : List Event) : (s.withHost es).readMsg = s.readMsg := (rfl)
@[simp] theorem State.respond_readMsg (s : State) (r : Response) : (s.respond r).readMsg = s.readMsg := (rfl)
@[simp] theorem State.clearDone_readMsg (s : State) : (s.clearDone).readMsg = s.readMsg := (rfl)
@[simp] theorem State.setDone_readMsg (s : State) : (s.setDone).readMsg = s.readMsg := (rfl)
@[simp] theorem State.raiseFault_readMsg (s : State) (e : ErrCode) : (s.raiseFault e).readMsg = s.readMsg := (rfl)
@[simp] theorem State.clearRegisters_readMsg (s : State) : (s.clearRegisters).readMsg = s.readMsg := (rfl)

end Sys2Proof.Machine
end

