-- ==== Sys2Proof/Laws/Ops.lean ====
section
/-! SUPPORT. What each shared operation can do, said once. -/

namespace Sys2Proof.Machine

/-- The acceptance of a command, inverted: with no fault pending the effect runs on the state with `DONE` cleared;
with one pending nothing changes. It always answers a next state. -/
theorem accept_next {s t : State} {effect : State → State} (h : accept s effect = .next t) :
    (s.ERR = .none ∧ t = effect s.clearDone) ∨ (s.ERR ≠ .none ∧ t = s) := by
  unfold accept at h
  split at h
  · exact .inl ⟨‹_›, by injection h with h; exact h.symm⟩
  · exact .inr ⟨‹_›, by injection h with h; exact h.symm⟩

theorem accept_of_none {s : State} (h : s.ERR = .none) (effect : State → State) :
    accept s effect = .next (effect s.clearDone) := by
  simp [accept, h]

theorem accept_of_pending {s : State} (h : s.ERR ≠ .none) (effect : State → State) : accept s effect = .next s := by
  simp [accept, h]

/-- A guarded effect: the fault and nothing else, or the effect. -/
theorem guarded_cases (s : State) (f : Option ErrCode) (effect : State → State) :
    (∃ e, f = some e ∧ s.guarded f effect = s.raiseFault e) ∨ (f = none ∧ s.guarded f effect = effect s) := by
  cases f with
  | none => exact .inr ⟨rfl, rfl⟩
  | some e => exact .inl ⟨e, rfl, rfl⟩

/-- The length checks say which fault, and that there is none exactly when `1 ≤ LEN ≤ MSG_BYTES`. -/
theorem initFault_eq_none (s : State) :
    s.initFault = none ↔ s.LEN ≠ 0#64 ∧ s.LEN.toNat ≤ s.params.msgBytes := by
  unfold State.initFault
  split
  · simp_all
  · split
    · simp_all
    · simp_all

theorem padFault_eq_none (s : State) :
    s.padFault = none ↔ s.LEN.toNat ≤ s.params.msgBytes ∧ s.BLKIDX.toNat < nblk s.LEN.toNat := by
  unfold State.padFault
  split
  · simp_all
  · split
    · simp_all
    · simp_all

/-- A loop is taken apart at its end as well as at its start. -/
theorem repeatTimes_succ {α : Type} (n : Nat) (f : α → α) (x : α) :
    repeatTimes (n + 1) f x = f (repeatTimes n f x) := by
  induction n generalizing x with
  | zero => rfl
  | succ n ih => exact ih (f x)

theorem repeatTimes_add {α : Type} (m n : Nat) (f : α → α) (x : α) :
    repeatTimes (m + n) f x = repeatTimes n f (repeatTimes m f x) := by
  induction m generalizing x with
  | zero => simp [repeatTimes]
  | succ m ih => rw [Nat.succ_add]; exact ih (f x)

/-- What one repetition keeps, the loop keeps. -/
theorem repeatTimes_keeps {α : Type} (P : α → Prop) (f : α → α) (hf : ∀ x, P x → P (f x)) (n : Nat) :
    ∀ x, P x → P (repeatTimes n f x) := by
  induction n with
  | zero => exact fun _ h => h
  | succ n ih => exact fun x h => ih (f x) (hf x h)

/-- A quantity that one repetition leaves alone, the loop leaves alone. -/
theorem repeatTimes_proj {α β : Type} (g : α → β) (f : α → α) (hf : ∀ x, g (f x) = g x) (n : Nat) (x : α) :
    g (repeatTimes n f x) = g x := by
  induction n generalizing x with
  | zero => rfl
  | succ n ih => exact (ih (f x)).trans (hf x)

/-- `thenNext` answers a next state exactly when what comes before it does. -/
theorem thenNext_next {o : Host.Outcome State Fault Refusal} {f : State → State} {t : State} :
    thenNext o f = .next t ↔ ∃ u, o = .next u ∧ t = f u := by
  cases o with
  | next u =>
    simp only [thenNext, Host.Outcome.next.injEq]
    exact ⟨fun h => ⟨u, rfl, h.symm⟩, fun ⟨v, hv, ht⟩ => hv ▸ ht.symm⟩
  | fault r => cases r
  | refused r => simp [thenNext]

end Sys2Proof.Machine
end

