-- ==== Sys2Proof/Laws/Commands.lean ====
section
/-! SUPPORT. What each command's effect leaves alone, one lemma per field, and the effect of each command beside
`exec`: provers cite these instead of unfolding an effect. -/

namespace Sys2Proof.Machine

/-! SEED writes `S` (40_initializer.md R93). -/

@[simp] theorem State.seedEffect_BLK (s : State) : (s.seedEffect).BLK = s.BLK := by
  simp [State.seedEffect]
@[simp] theorem State.seedEffect_LEN (s : State) : (s.seedEffect).LEN = s.LEN := by
  simp [State.seedEffect]
@[simp] theorem State.seedEffect_BLKIDX (s : State) : (s.seedEffect).BLKIDX = s.BLKIDX := by
  simp [State.seedEffect]
@[simp] theorem State.seedEffect_RND (s : State) : (s.seedEffect).RND = s.RND := by
  simp [State.seedEffect]
@[simp] theorem State.seedEffect_IDX (s : State) : (s.seedEffect).IDX = s.IDX := by
  simp [State.seedEffect]
@[simp] theorem State.seedEffect_RC (s : State) : (s.seedEffect).RC = s.RC := by
  simp [State.seedEffect]
@[simp] theorem State.seedEffect_X (s : State) : (s.seedEffect).X = s.X := by
  simp [State.seedEffect]
@[simp] theorem State.seedEffect_DONE (s : State) : (s.seedEffect).DONE = s.DONE := by
  simp [State.seedEffect]
@[simp] theorem State.seedEffect_ERR (s : State) : (s.seedEffect).ERR = s.ERR := by
  simp [State.seedEffect]
@[simp] theorem State.seedEffect_MSG (s : State) : (s.seedEffect).MSG = s.MSG := by
  simp [State.seedEffect]
@[simp] theorem State.seedEffect_msgDraw (s : State) : (s.seedEffect).msgDraw = s.msgDraw := by
  simp [State.seedEffect]
@[simp] theorem State.seedEffect_params (s : State) : (s.seedEffect).params = s.params := by
  simp [State.seedEffect]
@[simp] theorem State.seedEffect_host (s : State) : (s.seedEffect).host = s.host := by
  simp [State.seedEffect]
@[simp] theorem State.seedEffect_responses (s : State) : (s.seedEffect).responses = s.responses := by
  simp [State.seedEffect]
@[simp] theorem State.seedEffect_readMsg (s : State) : (s.seedEffect).readMsg = s.readMsg := by
  funext a; simp [State.readMsg]

/-! CASTEP writes `S` (R94). -/

@[simp] theorem State.castepEffect_BLK (n : Nat) (s : State) : (s.castepEffect n).BLK = s.BLK := by
  simp [State.castepEffect]
@[simp] theorem State.castepEffect_LEN (n : Nat) (s : State) : (s.castepEffect n).LEN = s.LEN := by
  simp [State.castepEffect]
@[simp] theorem State.castepEffect_BLKIDX (n : Nat) (s : State) : (s.castepEffect n).BLKIDX = s.BLKIDX := by
  simp [State.castepEffect]
@[simp] theorem State.castepEffect_RND (n : Nat) (s : State) : (s.castepEffect n).RND = s.RND := by
  simp [State.castepEffect]
@[simp] theorem State.castepEffect_IDX (n : Nat) (s : State) : (s.castepEffect n).IDX = s.IDX := by
  simp [State.castepEffect]
@[simp] theorem State.castepEffect_RC (n : Nat) (s : State) : (s.castepEffect n).RC = s.RC := by
  simp [State.castepEffect]
@[simp] theorem State.castepEffect_X (n : Nat) (s : State) : (s.castepEffect n).X = s.X := by
  simp [State.castepEffect]
@[simp] theorem State.castepEffect_DONE (n : Nat) (s : State) : (s.castepEffect n).DONE = s.DONE := by
  simp [State.castepEffect]
@[simp] theorem State.castepEffect_ERR (n : Nat) (s : State) : (s.castepEffect n).ERR = s.ERR := by
  simp [State.castepEffect]
@[simp] theorem State.castepEffect_MSG (n : Nat) (s : State) : (s.castepEffect n).MSG = s.MSG := by
  simp [State.castepEffect]
@[simp] theorem State.castepEffect_msgDraw (n : Nat) (s : State) : (s.castepEffect n).msgDraw = s.msgDraw := by
  simp [State.castepEffect]
@[simp] theorem State.castepEffect_params (n : Nat) (s : State) : (s.castepEffect n).params = s.params := by
  simp [State.castepEffect]
@[simp] theorem State.castepEffect_host (n : Nat) (s : State) : (s.castepEffect n).host = s.host := by
  simp [State.castepEffect]
@[simp] theorem State.castepEffect_responses (n : Nat) (s : State) : (s.castepEffect n).responses = s.responses := by
  simp [State.castepEffect]
@[simp] theorem State.castepEffect_readMsg (n : Nat) (s : State) : (s.castepEffect n).readMsg = s.readMsg := by
  funext a; simp [State.readMsg]

/-! INIT writes `S`, `BLKIDX`, `SEQ` (R95). -/

@[simp] theorem State.initEffect_BLK (s : State) : (s.initEffect).BLK = s.BLK := by
  simp [State.initEffect]
@[simp] theorem State.initEffect_LEN (s : State) : (s.initEffect).LEN = s.LEN := by
  simp [State.initEffect]
@[simp] theorem State.initEffect_RC (s : State) : (s.initEffect).RC = s.RC := by
  simp [State.initEffect]
@[simp] theorem State.initEffect_X (s : State) : (s.initEffect).X = s.X := by
  simp [State.initEffect]
@[simp] theorem State.initEffect_DONE (s : State) : (s.initEffect).DONE = s.DONE := by
  simp [State.initEffect]
@[simp] theorem State.initEffect_ERR (s : State) : (s.initEffect).ERR = s.ERR := by
  simp [State.initEffect]
@[simp] theorem State.initEffect_MSG (s : State) : (s.initEffect).MSG = s.MSG := by
  simp [State.initEffect]
@[simp] theorem State.initEffect_msgDraw (s : State) : (s.initEffect).msgDraw = s.msgDraw := by
  simp [State.initEffect]
@[simp] theorem State.initEffect_params (s : State) : (s.initEffect).params = s.params := by
  simp [State.initEffect]
@[simp] theorem State.initEffect_host (s : State) : (s.initEffect).host = s.host := by
  simp [State.initEffect]
@[simp] theorem State.initEffect_responses (s : State) : (s.initEffect).responses = s.responses := by
  simp [State.initEffect]
@[simp] theorem State.initEffect_readMsg (s : State) : (s.initEffect).readMsg = s.readMsg := by
  funext a; simp [State.readMsg]

/-! PADBLK writes `BLK`, `BLKIDX` (41_padder.md R102). -/

@[simp] theorem State.padEffect_S (s : State) : (s.padEffect).S = s.S := by
  simp [State.padEffect]
@[simp] theorem State.padEffect_LEN (s : State) : (s.padEffect).LEN = s.LEN := by
  simp [State.padEffect]
@[simp] theorem State.padEffect_RND (s : State) : (s.padEffect).RND = s.RND := by
  simp [State.padEffect]
@[simp] theorem State.padEffect_IDX (s : State) : (s.padEffect).IDX = s.IDX := by
  simp [State.padEffect]
@[simp] theorem State.padEffect_RC (s : State) : (s.padEffect).RC = s.RC := by
  simp [State.padEffect]
@[simp] theorem State.padEffect_X (s : State) : (s.padEffect).X = s.X := by
  simp [State.padEffect]
@[simp] theorem State.padEffect_DONE (s : State) : (s.padEffect).DONE = s.DONE := by
  simp [State.padEffect]
@[simp] theorem State.padEffect_ERR (s : State) : (s.padEffect).ERR = s.ERR := by
  simp [State.padEffect]
@[simp] theorem State.padEffect_MSG (s : State) : (s.padEffect).MSG = s.MSG := by
  simp [State.padEffect]
@[simp] theorem State.padEffect_msgDraw (s : State) : (s.padEffect).msgDraw = s.msgDraw := by
  simp [State.padEffect]
@[simp] theorem State.padEffect_params (s : State) : (s.padEffect).params = s.params := by
  simp [State.padEffect]
@[simp] theorem State.padEffect_host (s : State) : (s.padEffect).host = s.host := by
  simp [State.padEffect]
@[simp] theorem State.padEffect_responses (s : State) : (s.padEffect).responses = s.responses := by
  simp [State.padEffect]
@[simp] theorem State.padEffect_readMsg (s : State) : (s.padEffect).readMsg = s.readMsg := by
  funext a; simp [State.readMsg]

/-! ABSORB writes `S` (45_absorber_hash.md R147). -/

@[simp] theorem State.absorbEffect_BLK (s : State) : (s.absorbEffect).BLK = s.BLK := by
  simp [State.absorbEffect]
@[simp] theorem State.absorbEffect_LEN (s : State) : (s.absorbEffect).LEN = s.LEN := by
  simp [State.absorbEffect]
@[simp] theorem State.absorbEffect_BLKIDX (s : State) : (s.absorbEffect).BLKIDX = s.BLKIDX := by
  simp [State.absorbEffect]
@[simp] theorem State.absorbEffect_RND (s : State) : (s.absorbEffect).RND = s.RND := by
  simp [State.absorbEffect]
@[simp] theorem State.absorbEffect_IDX (s : State) : (s.absorbEffect).IDX = s.IDX := by
  simp [State.absorbEffect]
@[simp] theorem State.absorbEffect_RC (s : State) : (s.absorbEffect).RC = s.RC := by
  simp [State.absorbEffect]
@[simp] theorem State.absorbEffect_X (s : State) : (s.absorbEffect).X = s.X := by
  simp [State.absorbEffect]
@[simp] theorem State.absorbEffect_DONE (s : State) : (s.absorbEffect).DONE = s.DONE := by
  simp [State.absorbEffect]
@[simp] theorem State.absorbEffect_ERR (s : State) : (s.absorbEffect).ERR = s.ERR := by
  simp [State.absorbEffect]
@[simp] theorem State.absorbEffect_MSG (s : State) : (s.absorbEffect).MSG = s.MSG := by
  simp [State.absorbEffect]
@[simp] theorem State.absorbEffect_msgDraw (s : State) : (s.absorbEffect).msgDraw = s.msgDraw := by
  simp [State.absorbEffect]
@[simp] theorem State.absorbEffect_params (s : State) : (s.absorbEffect).params = s.params := by
  simp [State.absorbEffect]
@[simp] theorem State.absorbEffect_host (s : State) : (s.absorbEffect).host = s.host := by
  simp [State.absorbEffect]
@[simp] theorem State.absorbEffect_responses (s : State) : (s.absorbEffect).responses = s.responses := by
  simp [State.absorbEffect]
@[simp] theorem State.absorbEffect_readMsg (s : State) : (s.absorbEffect).readMsg = s.readMsg := by
  funext a; simp [State.readMsg]

/-! RCGEN writes `RC` (42_round_constant.md R113). -/

@[simp] theorem State.rcgenEffect_S (s : State) : (s.rcgenEffect).S = s.S := by
  simp [State.rcgenEffect]
@[simp] theorem State.rcgenEffect_BLK (s : State) : (s.rcgenEffect).BLK = s.BLK := by
  simp [State.rcgenEffect]
@[simp] theorem State.rcgenEffect_LEN (s : State) : (s.rcgenEffect).LEN = s.LEN := by
  simp [State.rcgenEffect]
@[simp] theorem State.rcgenEffect_BLKIDX (s : State) : (s.rcgenEffect).BLKIDX = s.BLKIDX := by
  simp [State.rcgenEffect]
@[simp] theorem State.rcgenEffect_RND (s : State) : (s.rcgenEffect).RND = s.RND := by
  simp [State.rcgenEffect]
@[simp] theorem State.rcgenEffect_IDX (s : State) : (s.rcgenEffect).IDX = s.IDX := by
  simp [State.rcgenEffect]
@[simp] theorem State.rcgenEffect_X (s : State) : (s.rcgenEffect).X = s.X := by
  simp [State.rcgenEffect]
@[simp] theorem State.rcgenEffect_DONE (s : State) : (s.rcgenEffect).DONE = s.DONE := by
  simp [State.rcgenEffect]
@[simp] theorem State.rcgenEffect_ERR (s : State) : (s.rcgenEffect).ERR = s.ERR := by
  simp [State.rcgenEffect]
@[simp] theorem State.rcgenEffect_MSG (s : State) : (s.rcgenEffect).MSG = s.MSG := by
  simp [State.rcgenEffect]
@[simp] theorem State.rcgenEffect_msgDraw (s : State) : (s.rcgenEffect).msgDraw = s.msgDraw := by
  simp [State.rcgenEffect]
@[simp] theorem State.rcgenEffect_params (s : State) : (s.rcgenEffect).params = s.params := by
  simp [State.rcgenEffect]
@[simp] theorem State.rcgenEffect_host (s : State) : (s.rcgenEffect).host = s.host := by
  simp [State.rcgenEffect]
@[simp] theorem State.rcgenEffect_responses (s : State) : (s.rcgenEffect).responses = s.responses := by
  simp [State.rcgenEffect]
@[simp] theorem State.rcgenEffect_readMsg (s : State) : (s.rcgenEffect).readMsg = s.readMsg := by
  funext a; simp [State.readMsg]

/-! SBOX writes `X` (43_sbox.md R123). -/

@[simp] theorem State.sboxEffect_S (s : State) : (s.sboxEffect).S = s.S := by
  simp [State.sboxEffect]
@[simp] theorem State.sboxEffect_BLK (s : State) : (s.sboxEffect).BLK = s.BLK := by
  simp [State.sboxEffect]
@[simp] theorem State.sboxEffect_LEN (s : State) : (s.sboxEffect).LEN = s.LEN := by
  simp [State.sboxEffect]
@[simp] theorem State.sboxEffect_BLKIDX (s : State) : (s.sboxEffect).BLKIDX = s.BLKIDX := by
  simp [State.sboxEffect]
@[simp] theorem State.sboxEffect_RND (s : State) : (s.sboxEffect).RND = s.RND := by
  simp [State.sboxEffect]
@[simp] theorem State.sboxEffect_IDX (s : State) : (s.sboxEffect).IDX = s.IDX := by
  simp [State.sboxEffect]
@[simp] theorem State.sboxEffect_RC (s : State) : (s.sboxEffect).RC = s.RC := by
  simp [State.sboxEffect]
@[simp] theorem State.sboxEffect_DONE (s : State) : (s.sboxEffect).DONE = s.DONE := by
  simp [State.sboxEffect]
@[simp] theorem State.sboxEffect_ERR (s : State) : (s.sboxEffect).ERR = s.ERR := by
  simp [State.sboxEffect]
@[simp] theorem State.sboxEffect_MSG (s : State) : (s.sboxEffect).MSG = s.MSG := by
  simp [State.sboxEffect]
@[simp] theorem State.sboxEffect_msgDraw (s : State) : (s.sboxEffect).msgDraw = s.msgDraw := by
  simp [State.sboxEffect]
@[simp] theorem State.sboxEffect_params (s : State) : (s.sboxEffect).params = s.params := by
  simp [State.sboxEffect]
@[simp] theorem State.sboxEffect_host (s : State) : (s.sboxEffect).host = s.host := by
  simp [State.sboxEffect]
@[simp] theorem State.sboxEffect_responses (s : State) : (s.sboxEffect).responses = s.responses := by
  simp [State.sboxEffect]
@[simp] theorem State.sboxEffect_readMsg (s : State) : (s.sboxEffect).readMsg = s.readMsg := by
  funext a; simp [State.readMsg]

/-! The word-step writes `S`, `RC`, `SEQ` (44_permutation.md R133). -/

@[simp] theorem State.wstepEffect_BLK (s : State) : (s.wstepEffect).BLK = s.BLK := by
  simp only [State.wstepEffect]; split <;> simp
@[simp] theorem State.wstepEffect_LEN (s : State) : (s.wstepEffect).LEN = s.LEN := by
  simp only [State.wstepEffect]; split <;> simp
@[simp] theorem State.wstepEffect_BLKIDX (s : State) : (s.wstepEffect).BLKIDX = s.BLKIDX := by
  simp only [State.wstepEffect]; split <;> simp
@[simp] theorem State.wstepEffect_X (s : State) : (s.wstepEffect).X = s.X := by
  simp only [State.wstepEffect]; split <;> simp
@[simp] theorem State.wstepEffect_DONE (s : State) : (s.wstepEffect).DONE = s.DONE := by
  simp only [State.wstepEffect]; split <;> simp
@[simp] theorem State.wstepEffect_ERR (s : State) : (s.wstepEffect).ERR = s.ERR := by
  simp only [State.wstepEffect]; split <;> simp
@[simp] theorem State.wstepEffect_MSG (s : State) : (s.wstepEffect).MSG = s.MSG := by
  simp only [State.wstepEffect]; split <;> simp
@[simp] theorem State.wstepEffect_msgDraw (s : State) : (s.wstepEffect).msgDraw = s.msgDraw := by
  simp only [State.wstepEffect]; split <;> simp
@[simp] theorem State.wstepEffect_params (s : State) : (s.wstepEffect).params = s.params := by
  simp only [State.wstepEffect]; split <;> simp
@[simp] theorem State.wstepEffect_host (s : State) : (s.wstepEffect).host = s.host := by
  simp only [State.wstepEffect]; split <;> simp
@[simp] theorem State.wstepEffect_responses (s : State) : (s.wstepEffect).responses = s.responses := by
  simp only [State.wstepEffect]; split <;> simp
@[simp] theorem State.wstepEffect_readMsg (s : State) : (s.wstepEffect).readMsg = s.readMsg := by
  funext a; simp [State.readMsg]

@[simp] theorem State.wstepEffect_S (s : State) :
    s.wstepEffect.S = (wordStep s.params s.RND.toNat s.wordIndex s.S).1 := by
  simp only [State.wstepEffect]; split <;> simp
@[simp] theorem State.wstepEffect_RC (s : State) :
    s.wstepEffect.RC = (wordStep s.params s.RND.toNat s.wordIndex s.S).2 := by
  simp only [State.wstepEffect]; split <;> simp
@[simp] theorem State.wstepEffect_RND (s : State) :
    s.wstepEffect.RND = if s.IDX = 15#4 then s.RND + 1#5 else s.RND := by
  simp only [State.wstepEffect]; split <;> simp
@[simp] theorem State.wstepEffect_IDX (s : State) : s.wstepEffect.IDX = s.IDX + 1#4 := by
  simp only [State.wstepEffect]
  split
  · rename_i h
    simp [h]
  · simp

/-! ROUND writes `S`, `RC`, `SEQ` (R134). -/

@[simp] theorem State.roundLoop_BLK (n : Nat) (s : State) : (State.roundLoop n s).BLK = s.BLK := by
  induction n generalizing s with
  | zero => rfl
  | succ n ih => unfold State.roundLoop; split <;> simp [ih]
@[simp] theorem State.roundLoop_LEN (n : Nat) (s : State) : (State.roundLoop n s).LEN = s.LEN := by
  induction n generalizing s with
  | zero => rfl
  | succ n ih => unfold State.roundLoop; split <;> simp [ih]
@[simp] theorem State.roundLoop_BLKIDX (n : Nat) (s : State) : (State.roundLoop n s).BLKIDX = s.BLKIDX := by
  induction n generalizing s with
  | zero => rfl
  | succ n ih => unfold State.roundLoop; split <;> simp [ih]
@[simp] theorem State.roundLoop_X (n : Nat) (s : State) : (State.roundLoop n s).X = s.X := by
  induction n generalizing s with
  | zero => rfl
  | succ n ih => unfold State.roundLoop; split <;> simp [ih]
@[simp] theorem State.roundLoop_DONE (n : Nat) (s : State) : (State.roundLoop n s).DONE = s.DONE := by
  induction n generalizing s with
  | zero => rfl
  | succ n ih => unfold State.roundLoop; split <;> simp [ih]
@[simp] theorem State.roundLoop_ERR (n : Nat) (s : State) : (State.roundLoop n s).ERR = s.ERR := by
  induction n generalizing s with
  | zero => rfl
  | succ n ih => unfold State.roundLoop; split <;> simp [ih]
@[simp] theorem State.roundLoop_MSG (n : Nat) (s : State) : (State.roundLoop n s).MSG = s.MSG := by
  induction n generalizing s with
  | zero => rfl
  | succ n ih => unfold State.roundLoop; split <;> simp [ih]
@[simp] theorem State.roundLoop_msgDraw (n : Nat) (s : State) : (State.roundLoop n s).msgDraw = s.msgDraw := by
  induction n generalizing s with
  | zero => rfl
  | succ n ih => unfold State.roundLoop; split <;> simp [ih]
@[simp] theorem State.roundLoop_params (n : Nat) (s : State) : (State.roundLoop n s).params = s.params := by
  induction n generalizing s with
  | zero => rfl
  | succ n ih => unfold State.roundLoop; split <;> simp [ih]
@[simp] theorem State.roundLoop_host (n : Nat) (s : State) : (State.roundLoop n s).host = s.host := by
  induction n generalizing s with
  | zero => rfl
  | succ n ih => unfold State.roundLoop; split <;> simp [ih]
@[simp] theorem State.roundLoop_responses (n : Nat) (s : State) : (State.roundLoop n s).responses = s.responses := by
  induction n generalizing s with
  | zero => rfl
  | succ n ih => unfold State.roundLoop; split <;> simp [ih]
@[simp] theorem State.roundLoop_readMsg (n : Nat) (s : State) : (State.roundLoop n s).readMsg = s.readMsg := by
  funext a; simp [State.readMsg]

/-! ROUND, the whole loop. -/

@[simp] theorem State.roundEffect_BLK (s : State) : (s.roundEffect).BLK = s.BLK := by
  simp only [State.roundEffect, State.roundLoop_BLK]
@[simp] theorem State.roundEffect_LEN (s : State) : (s.roundEffect).LEN = s.LEN := by
  simp only [State.roundEffect, State.roundLoop_LEN]
@[simp] theorem State.roundEffect_BLKIDX (s : State) : (s.roundEffect).BLKIDX = s.BLKIDX := by
  simp only [State.roundEffect, State.roundLoop_BLKIDX]
@[simp] theorem State.roundEffect_X (s : State) : (s.roundEffect).X = s.X := by
  simp only [State.roundEffect, State.roundLoop_X]
@[simp] theorem State.roundEffect_DONE (s : State) : (s.roundEffect).DONE = s.DONE := by
  simp only [State.roundEffect, State.roundLoop_DONE]
@[simp] theorem State.roundEffect_ERR (s : State) : (s.roundEffect).ERR = s.ERR := by
  simp only [State.roundEffect, State.roundLoop_ERR]
@[simp] theorem State.roundEffect_MSG (s : State) : (s.roundEffect).MSG = s.MSG := by
  simp only [State.roundEffect, State.roundLoop_MSG]
@[simp] theorem State.roundEffect_msgDraw (s : State) : (s.roundEffect).msgDraw = s.msgDraw := by
  simp only [State.roundEffect, State.roundLoop_msgDraw]
@[simp] theorem State.roundEffect_params (s : State) : (s.roundEffect).params = s.params := by
  simp only [State.roundEffect, State.roundLoop_params]
@[simp] theorem State.roundEffect_host (s : State) : (s.roundEffect).host = s.host := by
  simp only [State.roundEffect, State.roundLoop_host]
@[simp] theorem State.roundEffect_responses (s : State) : (s.roundEffect).responses = s.responses := by
  simp only [State.roundEffect, State.roundLoop_responses]
@[simp] theorem State.roundEffect_readMsg (s : State) : (s.roundEffect).readMsg = s.readMsg := by
  funext a; simp [State.readMsg]

/-! PERMUTE writes `S`, `RC`, `SEQ` (R135). -/

@[simp] theorem State.permuteEffect_BLK (s : State) : (s.permuteEffect).BLK = s.BLK := by
  unfold State.permuteEffect
  rw [repeatTimes_proj State.BLK _ State.wstepEffect_BLK, State.withSEQ_BLK]
@[simp] theorem State.permuteEffect_LEN (s : State) : (s.permuteEffect).LEN = s.LEN := by
  unfold State.permuteEffect
  rw [repeatTimes_proj State.LEN _ State.wstepEffect_LEN, State.withSEQ_LEN]
@[simp] theorem State.permuteEffect_BLKIDX (s : State) : (s.permuteEffect).BLKIDX = s.BLKIDX := by
  unfold State.permuteEffect
  rw [repeatTimes_proj State.BLKIDX _ State.wstepEffect_BLKIDX, State.withSEQ_BLKIDX]
@[simp] theorem State.permuteEffect_X (s : State) : (s.permuteEffect).X = s.X := by
  unfold State.permuteEffect
  rw [repeatTimes_proj State.X _ State.wstepEffect_X, State.withSEQ_X]
@[simp] theorem State.permuteEffect_DONE (s : State) : (s.permuteEffect).DONE = s.DONE := by
  unfold State.permuteEffect
  rw [repeatTimes_proj State.DONE _ State.wstepEffect_DONE, State.withSEQ_DONE]
@[simp] theorem State.permuteEffect_ERR (s : State) : (s.permuteEffect).ERR = s.ERR := by
  unfold State.permuteEffect
  rw [repeatTimes_proj State.ERR _ State.wstepEffect_ERR, State.withSEQ_ERR]
@[simp] theorem State.permuteEffect_MSG (s : State) : (s.permuteEffect).MSG = s.MSG := by
  unfold State.permuteEffect
  rw [repeatTimes_proj State.MSG _ State.wstepEffect_MSG, State.withSEQ_MSG]
@[simp] theorem State.permuteEffect_msgDraw (s : State) : (s.permuteEffect).msgDraw = s.msgDraw := by
  unfold State.permuteEffect
  rw [repeatTimes_proj State.msgDraw _ State.wstepEffect_msgDraw, State.withSEQ_msgDraw]
@[simp] theorem State.permuteEffect_params (s : State) : (s.permuteEffect).params = s.params := by
  unfold State.permuteEffect
  rw [repeatTimes_proj State.params _ State.wstepEffect_params, State.withSEQ_params]
@[simp] theorem State.permuteEffect_host (s : State) : (s.permuteEffect).host = s.host := by
  unfold State.permuteEffect
  rw [repeatTimes_proj State.host _ State.wstepEffect_host, State.withSEQ_host]
@[simp] theorem State.permuteEffect_responses (s : State) : (s.permuteEffect).responses = s.responses := by
  unfold State.permuteEffect
  rw [repeatTimes_proj State.responses _ State.wstepEffect_responses, State.withSEQ_responses]
@[simp] theorem State.permuteEffect_readMsg (s : State) : (s.permuteEffect).readMsg = s.readMsg := by
  funext a; simp [State.readMsg]

/-! One repetition of HASH writes `S`, `BLK`, `BLKIDX`, `RC`, `SEQ` (R148). -/

@[simp] theorem State.hashBlock_LEN (s : State) : (s.hashBlock).LEN = s.LEN := by
  simp [State.hashBlock]
@[simp] theorem State.hashBlock_X (s : State) : (s.hashBlock).X = s.X := by
  simp [State.hashBlock]
@[simp] theorem State.hashBlock_DONE (s : State) : (s.hashBlock).DONE = s.DONE := by
  simp [State.hashBlock]
@[simp] theorem State.hashBlock_ERR (s : State) : (s.hashBlock).ERR = s.ERR := by
  simp [State.hashBlock]
@[simp] theorem State.hashBlock_MSG (s : State) : (s.hashBlock).MSG = s.MSG := by
  simp [State.hashBlock]
@[simp] theorem State.hashBlock_msgDraw (s : State) : (s.hashBlock).msgDraw = s.msgDraw := by
  simp [State.hashBlock]
@[simp] theorem State.hashBlock_params (s : State) : (s.hashBlock).params = s.params := by
  simp [State.hashBlock]
@[simp] theorem State.hashBlock_host (s : State) : (s.hashBlock).host = s.host := by
  simp [State.hashBlock]
@[simp] theorem State.hashBlock_responses (s : State) : (s.hashBlock).responses = s.responses := by
  simp [State.hashBlock]
@[simp] theorem State.hashBlock_readMsg (s : State) : (s.hashBlock).readMsg = s.readMsg := by
  funext a; simp [State.readMsg]

/-! HASH also sets `DONE` (R148). -/

@[simp] theorem State.hashEffect_LEN (s : State) : (s.hashEffect).LEN = s.LEN := by
  simp only [State.hashEffect, State.setDone_LEN]
  rw [repeatTimes_proj State.LEN _ State.hashBlock_LEN, State.initEffect_LEN]
@[simp] theorem State.hashEffect_X (s : State) : (s.hashEffect).X = s.X := by
  simp only [State.hashEffect, State.setDone_X]
  rw [repeatTimes_proj State.X _ State.hashBlock_X, State.initEffect_X]
@[simp] theorem State.hashEffect_ERR (s : State) : (s.hashEffect).ERR = s.ERR := by
  simp only [State.hashEffect, State.setDone_ERR]
  rw [repeatTimes_proj State.ERR _ State.hashBlock_ERR, State.initEffect_ERR]
@[simp] theorem State.hashEffect_MSG (s : State) : (s.hashEffect).MSG = s.MSG := by
  simp only [State.hashEffect, State.setDone_MSG]
  rw [repeatTimes_proj State.MSG _ State.hashBlock_MSG, State.initEffect_MSG]
@[simp] theorem State.hashEffect_msgDraw (s : State) : (s.hashEffect).msgDraw = s.msgDraw := by
  simp only [State.hashEffect, State.setDone_msgDraw]
  rw [repeatTimes_proj State.msgDraw _ State.hashBlock_msgDraw, State.initEffect_msgDraw]
@[simp] theorem State.hashEffect_params (s : State) : (s.hashEffect).params = s.params := by
  simp only [State.hashEffect, State.setDone_params]
  rw [repeatTimes_proj State.params _ State.hashBlock_params, State.initEffect_params]
@[simp] theorem State.hashEffect_host (s : State) : (s.hashEffect).host = s.host := by
  simp only [State.hashEffect, State.setDone_host]
  rw [repeatTimes_proj State.host _ State.hashBlock_host, State.initEffect_host]
@[simp] theorem State.hashEffect_responses (s : State) : (s.hashEffect).responses = s.responses := by
  simp only [State.hashEffect, State.setDone_responses]
  rw [repeatTimes_proj State.responses _ State.hashBlock_responses, State.initEffect_responses]
@[simp] theorem State.hashEffect_readMsg (s : State) : (s.hashEffect).readMsg = s.readMsg := by
  funext a; simp [State.readMsg]

@[simp] theorem State.hashEffect_DONE (s : State) : s.hashEffect.DONE = true := by
  simp [State.hashEffect]

/-! `exec`, one command at a time. -/

/-- The effect a command has once it is accepted (30_encoding.md R75); NOP and CLEAR do not wait for acceptance. -/
def effectOf (i : Instr) (s : State) : State :=
  match i with
  | .nop => s
  | .clear => s.clearRegisters
  | .seed => s.guarded s.initFault State.seedEffect
  | .castep n => s.castepEffect n
  | .init => s.guarded s.initFault State.initEffect
  | .padblk => s.guarded s.padFault State.padEffect
  | .absorb => s.absorbEffect
  | .rcgen => s.rcgenEffect
  | .sbox => s.sboxEffect
  | .wstep => s.wstepEffect
  | .round => s.roundEffect
  | .permute => s.permuteEffect
  | .hash => s.guarded s.initFault State.hashEffect

/-- `exec` said once: NOP and CLEAR have their effect in every state, every other command is accepted or ignored. -/
theorem exec_eq (i : Instr) (s : State) :
    exec i s = match i with
      | .nop => .next s
      | .clear => .next s.clearRegisters
      | i => accept s (effectOf i) := by
  cases i <;> rfl

/-- What a command can do: nothing, because a fault is pending; or its effect. -/
theorem exec_next {i : Instr} {s t : State} (h : exec i s = .next t) :
    (i = .nop ∧ t = s) ∨ (i = .clear ∧ t = s.clearRegisters) ∨
      (i ≠ .nop ∧ i ≠ .clear ∧ s.ERR ≠ .none ∧ t = s) ∨
      (i ≠ .nop ∧ i ≠ .clear ∧ s.ERR = .none ∧ t = effectOf i s.clearDone) := by
  cases i with
  | nop => exact .inl ⟨rfl, by injection h with h; exact h.symm⟩
  | clear => exact .inr (.inl ⟨rfl, by injection h with h; exact h.symm⟩)
  | _ =>
    right; right
    simp only [exec_eq] at h
    rcases accept_next h with ⟨he, ht⟩ | ⟨he, ht⟩
    · exact .inr ⟨nofun, nofun, he, ht⟩
    · exact .inl ⟨nofun, nofun, he, ht⟩

end Sys2Proof.Machine
end

