-- ==== Sys2Proof/Laws/Memory.lean ====
section
/-! SUPPORT. The message memory: a read after a write, the canonical form, and the bytes of one port datum. -/

namespace Sys2Proof.Machine

/-- Every listed address of `m` is at least `a`. -/
theorem Memory.wf_cons {c : Host.Cell} {m : Memory} : Memory.wf (c :: m) ↔ (∀ e ∈ m, c.1 < e.1) ∧ Memory.wf m :=
  List.pairwise_cons

/-- An address of the memory after a write is the written one or was listed before. -/
theorem Memory.mem_write {m : Memory} {a : Nat} {b : Byte} {c : Host.Cell} (h : c ∈ m.write a b) :
    c = (a, b) ∨ c ∈ m := by
  induction m with
  | nil => simpa [Memory.write] using h
  | cons e m ih =>
    obtain ⟨k, v⟩ := e
    simp only [Memory.write] at h
    split at h
    · simpa using h
    · split at h
      · rcases List.mem_cons.1 h with h | h
        · exact .inl h
        · exact .inr (List.mem_cons_of_mem _ h)
      · rcases List.mem_cons.1 h with h | h
        · exact .inr (h ▸ List.mem_cons_self)
        · exact (ih h).imp id (List.mem_cons_of_mem _)

/-- A write keeps the canonical form. -/
theorem Memory.write_wf {m : Memory} (h : m.wf) (a : Nat) (b : Byte) : (m.write a b).wf := by
  induction m with
  | nil => simp [Memory.write, Memory.wf]
  | cons e m ih =>
    obtain ⟨k, v⟩ := e
    obtain ⟨hk, hm⟩ := Memory.wf_cons.1 h
    simp only [Memory.write]
    split
    · rename_i hak
      refine Memory.wf_cons.2 ⟨fun e he => ?_, h⟩
      rcases List.mem_cons.1 he with rfl | he
      · exact hak
      · exact Nat.lt_trans hak (hk e he)
    · split
      · rename_i hak
        subst hak
        exact Memory.wf_cons.2 ⟨hk, hm⟩
      · refine Memory.wf_cons.2 ⟨fun e he => ?_, ih hm⟩
        rcases Memory.mem_write he with rfl | he
        · show k < a
          omega
        · exact hk e he

/-- An address at or below every listed one, and different from the first, is not listed. -/
theorem Memory.read?_eq_none {m : Memory} {a : Nat} (h : ∀ c ∈ m, a < c.1) : m.read? a = none := by
  induction m with
  | nil => rfl
  | cons e m ih =>
    obtain ⟨k, v⟩ := e
    have hk : a < k := h (k, v) List.mem_cons_self
    simp only [Memory.read?]
    rw [if_neg (by omega)]
    exact ih fun c hc => h c (List.mem_cons_of_mem _ hc)

/-- Reading after a write: the written byte at its address, every other address as before. -/
theorem Memory.read?_write (m : Memory) (a : Nat) (b : Byte) (x : Nat) :
    (m.write a b).read? x = if x = a then some b else m.read? x := by
  induction m with
  | nil => simp [Memory.write, Memory.read?, eq_comm]
  | cons e m ih =>
    obtain ⟨k, v⟩ := e
    simp only [Memory.write]
    split
    · rename_i hak
      simp only [Memory.read?]
      by_cases hxa : x = a
      · simp [hxa]
      · rw [if_neg (by omega), if_neg hxa]
    · split
      · rename_i hak
        subst hak
        simp only [Memory.read?]
        by_cases hxa : x = a
        · simp [hxa]
        · rw [if_neg (by omega), if_neg hxa, if_neg (by omega)]
      · simp only [Memory.read?, ih]
        by_cases hkx : k = x
        · rw [if_pos hkx, if_pos hkx, if_neg (by omega)]
        · rw [if_neg hkx, if_neg hkx]

theorem Memory.mem_writeBytes {bs : List Byte} {m : Memory} {a : Nat} {c : Host.Cell}
    (h : c ∈ m.writeBytes a bs) : (a ≤ c.1 ∧ c.1 < a + bs.length) ∨ c ∈ m := by
  induction bs generalizing m a with
  | nil => exact .inr h
  | cons b bs ih =>
    simp only [Memory.writeBytes] at h
    simp only [List.length_cons]
    rcases ih h with h | h
    · exact .inl ⟨by omega, by omega⟩
    · rcases Memory.mem_write h with rfl | h
      · exact .inl ⟨Nat.le_refl _, by simp⟩
      · exact .inr h

/-- Writing a run of bytes keeps the canonical form. -/
theorem Memory.writeBytes_wf {bs : List Byte} {m : Memory} (h : m.wf) (a : Nat) : (m.writeBytes a bs).wf := by
  induction bs generalizing m a with
  | nil => exact h
  | cons b bs ih => exact ih (Memory.write_wf h a b) (a + 1)

/-- Reading after a run of bytes was written at `a`. -/
theorem Memory.read?_writeBytes (bs : List Byte) (m : Memory) (a x : Nat) :
    (m.writeBytes a bs).read? x =
      if a ≤ x ∧ x < a + bs.length then bs[x - a]? else m.read? x := by
  induction bs generalizing m a with
  | nil => simp [Memory.writeBytes]
  | cons b bs ih =>
    simp only [Memory.writeBytes, ih, List.length_cons, Memory.read?_write]
    by_cases h1 : a + 1 ≤ x ∧ x < a + 1 + bs.length
    · rw [if_pos h1, if_pos (by omega)]
      have : x - a = (x - (a + 1)) + 1 := by omega
      rw [this, List.getElem?_cons_succ]
    · rw [if_neg h1]
      by_cases h2 : x = a
      · subst h2
        simp
      · rw [if_neg h2, if_neg (by omega)]

@[simp] theorem laneBytes_length (d : Word) : (laneBytes d).length = 8 := rfl

theorem laneBytes_getElem? (d : Word) (k : Nat) (hk : k < 8) : (laneBytes d)[k]? = some (byteOf d k) := by
  have : k = 0 ∨ k = 1 ∨ k = 2 ∨ k = 3 ∨ k = 4 ∨ k = 5 ∨ k = 6 ∨ k = 7 := by omega
  rcases this with rfl | rfl | rfl | rfl | rfl | rfl | rfl | rfl <;> rfl

/-- What the message memory reads after the eight bytes of a datum were stored at `a`. -/
theorem readMsg_withLaneBytes (s : State) (a : Nat) (d : Word) (x : Nat) :
    (s.withMSG (s.MSG.writeBytes a (laneBytes d))).readMsg x =
      if a ≤ x ∧ x < a + 8 then byteOf d (x - a) else s.readMsg x := by
  show (match (s.MSG.writeBytes a (laneBytes d)).read? x with
    | some b => b
    | none => Config.msgUnspecified s.msgDraw x) = _
  rw [Memory.read?_writeBytes, laneBytes_length]
  by_cases h : a ≤ x ∧ x < a + 8
  · rw [if_pos h, if_pos h, laneBytes_getElem? d _ (by omega)]
  · rw [if_neg h, if_neg h]
    rfl

end Sys2Proof.Machine
end

