-- ==== Sys2Proof/Laws/Operands.lean ====
section
/-! SUPPORT. The byte lanes of the port and the word view of the working state: a read after a write. -/

namespace Sys2Proof.Machine

theorem setLanes_getElem {n : Nat} (B : Vector Byte n) (j : Nat) (d : Word) (i : Nat) (hi : i < n) :
    (setLanes B j d)[i] = if i / 8 = j then byteOf d (i % 8) else B[i] := by
  simp [setLanes]

/-- The group just written reads as the datum; every other group reads as before. -/
theorem lanes_setLanes {n : Nat} (B : Vector Byte n) (j k : Nat) (d : Word) (h : 8 * k + 7 < n) :
    lanes (setLanes B j d) k h = if k = j then d else lanes B k h := by
  apply word_ext
  intro i hi
  unfold lanes
  rw [byteOf_le64_nat _ i hi, setLanes_getElem]
  have h1 : (8 * k + i) / 8 = k := by omega
  have h2 : (8 * k + i) % 8 = i := by omega
  simp only [h1, h2]
  split
  · rfl
  · rw [byteOf_le64_nat _ i hi]

theorem byteOf_lanes {n : Nat} (B : Vector Byte n) (j : Nat) (h : 8 * j + 7 < n) (k : Nat) (hk : k < 8) :
    byteOf (lanes B j h) k = B[8 * j + k] :=
  byteOf_le64_nat _ k hk

theorem setWordAt_getElem (o : ByteOrder) (S : Vector Byte 128) (m : Fin 16) (v : Word) (i : Nat) (hi : i < 128) :
    (setWordAt o S m v)[i] = if i / 8 = m.val then wordByte o v (i % 8) else S[i] := by
  simp [setWordAt]

/-- The word view after `W[m] <- v` (10_state.md R22), in either byte order. -/
theorem wordAt_setWordAt (o : ByteOrder) (S : Vector Byte 128) (m k : Fin 16) (v : Word) :
    wordAt o (setWordAt o S m v) k = if k = m then v else wordAt o S k := by
  have h1 : ∀ i, i < 8 → (8 * k.val + i) / 8 = k.val := fun i hi => by omega
  have h2 : ∀ i, i < 8 → (8 * k.val + i) % 8 = i := fun i hi => by omega
  apply word_ext
  intro i hi
  cases o with
  | le =>
    simp only [wordAt]
    rw [byteOf_le64_nat _ i hi, setWordAt_getElem]
    simp only [h1 i hi, h2 i hi, Fin.ext_iff]
    split
    · rfl
    · rw [byteOf_le64_nat _ i hi]
  | be =>
    simp only [wordAt]
    rw [byteOf_be64 _ i hi, setWordAt_getElem]
    simp only [h1 (7 - i) (by omega), h2 (7 - i) (by omega), Fin.ext_iff]
    split
    · simp only [wordByte]
      congr 1
      omega
    · rw [byteOf_be64 _ i hi]

/-- The word view and the port's view of the same eight bytes (20_memory.md R51). -/
theorem wordAt_eq_lanes (o : ByteOrder) (S : Vector Byte 128) (m : Fin 16) :
    wordAt o S m = match o with
      | .le => lanes S m.val (by omega)
      | .be => bswap64 (lanes S m.val (by omega)) := by
  cases o with
  | le => rfl
  | be =>
    simp only [wordAt, lanes]
    rw [be64_eq_bswap64]

/-- The digest view, byte by byte. -/
theorem digestOf_getElem (S : Vector Byte 128) (k : Nat) (hk : k < 64) : (digestOf S)[k] = S[k] := by
  simp [digestOf]

end Sys2Proof.Machine
end

