-- ==== Sys2Proof/Laws/PerInstr.lean ====
section
/-! SUPPORT. A family of statements about every command as syntax: what the four fields of its encoding hold
(30_encoding.md R70, R72), one lemma per constructor. -/

namespace Sys2Proof.Laws.EncodingFields

/-- The fields of a well-formed command's encoding: bits 63:32 and 23:8 zero, the opcode and the operand in theirs. -/
def Statement (i : Instr) : Prop :=
  i.wellFormed = true →
    fieldHi (encode i) = 0#32 ∧ fieldRsv (encode i) = 0#16 ∧ (fieldOp (encode i)).toNat = i.opcode ∧
      (fieldImm8 (encode i)).toNat = i.immediate

theorem nop : Statement .nop := fun _ => by decide
theorem clear : Statement .clear := fun _ => by decide
theorem seed : Statement .seed := fun _ => by decide
theorem init : Statement .init := fun _ => by decide
theorem padblk : Statement .padblk := fun _ => by decide
theorem absorb : Statement .absorb := fun _ => by decide
theorem rcgen : Statement .rcgen := fun _ => by decide
theorem sbox : Statement .sbox := fun _ => by decide
theorem wstep : Statement .wstep := fun _ => by decide
theorem round : Statement .round := fun _ => by decide
theorem permute : Statement .permute := fun _ => by decide
theorem hash : Statement .hash := fun _ => by decide

theorem castep (n : Nat) : Statement (.castep n) := by
  intro h
  have hn : n ≤ 255 := by simpa [Instr.wellFormed] using h
  have hv : (encode (.castep n)).toNat = 285212672 + n := by
    simp only [encode, Instr.opcode, Instr.immediate, BitVec.toNat_ofNat]
    omega
  refine ⟨?_, ?_, ?_, ?_⟩
  · apply BitVec.eq_of_toNat_eq
    simp only [fieldHi, BitVec.extractLsb'_toNat, hv, Nat.shiftRight_eq_div_pow, BitVec.toNat_ofNat]
    omega
  · apply BitVec.eq_of_toNat_eq
    simp only [fieldRsv, BitVec.extractLsb'_toNat, hv, Nat.shiftRight_eq_div_pow, BitVec.toNat_ofNat]
    omega
  · simp only [fieldOp, BitVec.extractLsb'_toNat, hv, Nat.shiftRight_eq_div_pow, Instr.opcode]
    omega
  · simp only [fieldImm8, BitVec.extractLsb'_toNat, hv, Nat.shiftRight_eq_div_pow, Instr.immediate]
    omega

end Sys2Proof.Laws.EncodingFields
end

