-- ==== Sys2Proof/Laws/Port.lean ====
section
/-! SUPPORT. The address map read both ways, and what a step can do: one equation per kind of host event, and one
inversion lemma. -/

namespace Sys2Proof.Machine

/-- The offset a location stands at (20_memory.md R53). -/
def Loc.At (msgBytes : Nat) (l : Loc) (addr : Nat) : Prop :=
  match l with
  | .cmd => addr = 0x0000
  | .status => addr = 0x0008
  | .len => addr = 0x0010
  | .blkidx => addr = 0x0018
  | .seq => addr = 0x0020
  | .rc => addr = 0x0028
  | .x => addr = 0x0030
  | .blk j => addr = 0x0040 + 8 * j.val
  | .sw m => addr = 0x0080 + 8 * m.val
  | .msg a => addr = 0x1000 + a ∧ a % 8 = 0 ∧ a / 8 < msgBytes / 8

/-- The eight words of the block buffer stand where R53 lists them. -/
theorem locate_blk (M : Nat) (j : Fin 8) : locate M (0x0040 + 8 * j.val) = .ok (.blk j) := by
  fin_cases j <;> rfl

/-- The sixteen words of the working state stand where R53 lists them. -/
theorem locate_sw (M : Nat) (m : Fin 16) : locate M (0x0080 + 8 * m.val) = .ok (.sw m) := by
  fin_cases m <;> rfl

/-- Above the registers the map has nothing but the message window. -/
theorem locate_window {M addr : Nat} (h : 0x1000 ≤ addr) (h8 : addr % 8 = 0) :
    locate M addr = if (addr - 0x1000) / 8 < M / 8 then .ok (.msg (addr - 0x1000)) else .error .unmapped := by
  have high : ∀ c, c < 0x1000 → addr ≠ c := fun c hc => by omega
  simp [locate, h8, h, high, show ¬ addr < 0x80 by omega, show ¬ addr < 0x100 by omega]

/-- The address map, location by location. -/
theorem locate_eq_ok {msgBytes addr : Nat} {l : Loc} : locate msgBytes addr = .ok l ↔ l.At msgBytes addr := by
  constructor
  · intro h
    unfold locate at h
    repeat' split at h
    all_goals first | (injection h with h; subst h; simp only [Loc.At]; omega) | cases h
  · intro h
    cases l <;> simp only [Loc.At] at h
    case blk j => exact h ▸ locate_blk msgBytes j
    case sw m => exact h ▸ locate_sw msgBytes m
    case msg a =>
      rw [locate_window (by omega) (by omega), show addr - 0x1000 = a by omega, if_pos h.2.2]
    all_goals subst h; rfl

theorem step_idle {s : State} (h : s.host = []) : step s = .next s := by
  simp [step, h]

theorem step_event {s : State} {e : Event} {rest : List Event} (h : s.host = e :: rest) :
    step s = perform e (s.withHost rest) := by
  simp [step, h]

theorem perform_read (a : Nat) (s : State) : perform (.read a) s = .next (s.respond (s.hostRead a)) := rfl

theorem perform_reset (s : State) : perform .reset s = .next s.resetEngine := rfl

/-- A write that is a bus error. -/
theorem hostWrite_busError {a : Nat} {d : Word} {s : State} {c : BusCause}
    (h : writeTarget s.params.msgBytes a = .error c) : hostWrite a d s = .next (s.respond .busError) := by
  simp [hostWrite, h]

/-- A write to `CMD`. -/
theorem hostWrite_cmd {a : Nat} {d : Word} {s : State} (h : writeTarget s.params.msgBytes a = .ok .cmd) :
    hostWrite a d s = thenNext (commandWrite d s) (fun t => t.respond .ok) := by
  simp [hostWrite, h]

/-- A write to any other location that can be written. -/
theorem hostWrite_store {a : Nat} {d : Word} {s : State} {l : Loc} (h : writeTarget s.params.msgBytes a = .ok l)
    (hl : l ≠ .cmd) : hostWrite a d s = .next ((s.store l d).clearDone.respond .ok) := by
  cases l <;> simp_all [hostWrite]

/-- Where a write goes: to a location that can be written. -/
theorem writeTarget_eq_ok {msgBytes addr : Nat} {l : Loc} :
    writeTarget msgBytes addr = .ok l ↔ l.At msgBytes addr ∧ l.readOnly = false := by
  unfold writeTarget
  cases h : locate msgBytes addr with
  | error c =>
    constructor
    · intro h'
      exact absurd h' (by simp)
    · intro h'
      rw [locate_eq_ok.2 h'.1] at h
      exact absurd h (by simp)
  | ok k =>
    constructor
    · intro h'
      by_cases hk : k.readOnly
      · simp [hk] at h'
      · simp only [hk] at h'
        injection h' with h'
        subst h'
        exact ⟨locate_eq_ok.1 h, by simpa using hk⟩
    · rintro ⟨h1, h2⟩
      rw [locate_eq_ok.2 h1] at h
      injection h with h
      subst h
      simp [h2]

/-- A command write always answers a next state. -/
theorem commandWrite_next (d : Word) (s : State) : ∃ t, commandWrite d s = .next t := by
  unfold commandWrite
  cases decode d with
  | ok i =>
    simp only
    rw [exec_eq]
    cases i <;> first | exact ⟨_, rfl⟩ | (simp only [accept]; split <;> exact ⟨_, rfl⟩)
  | error c =>
    simp only [accept]
    split <;> exact ⟨_, rfl⟩

/-- What a step can do, said once: nothing (no event to come); a read's response; a bus error; a command and its
response; a store that clears `DONE`; a reset. -/
theorem step_cases {s t : State} (h : step s = .next t) :
    (s.host = [] ∧ t = s) ∨
    (∃ e rest u, s.host = e :: rest ∧ u = s.withHost rest ∧
      ((∃ a, e = .read a ∧ t = u.respond (u.hostRead a)) ∨
       (∃ a d c, e = .write a d ∧ writeTarget s.params.msgBytes a = .error c ∧ t = u.respond .busError) ∨
       (∃ a d v, e = .write a d ∧ a = 0 ∧ commandWrite d u = .next v ∧ t = v.respond .ok) ∨
       (∃ a d l, e = .write a d ∧ l ≠ .cmd ∧ l.readOnly = false ∧ l.At s.params.msgBytes a ∧
         t = (u.store l d).clearDone.respond .ok) ∨
       (e = .reset ∧ t = u.resetEngine))) := by
  cases hh : s.host with
  | nil =>
    rw [step_idle hh] at h
    injection h with h
    exact .inl ⟨rfl, h.symm⟩
  | cons e rest =>
    rw [step_event hh] at h
    refine .inr ⟨e, rest, s.withHost rest, rfl, rfl, ?_⟩
    cases e with
    | read a =>
      rw [perform_read] at h
      injection h with h
      exact .inl ⟨a, rfl, h.symm⟩
    | reset =>
      rw [perform_reset] at h
      injection h with h
      exact .inr (.inr (.inr (.inr ⟨rfl, h.symm⟩)))
    | write a d =>
      have h : hostWrite a d (s.withHost rest) = .next t := h
      have hp : (s.withHost rest).params = s.params := State.withHost_params s rest
      cases hw : writeTarget s.params.msgBytes a with
      | error c =>
        rw [hostWrite_busError (c := c) (by rw [hp]; exact hw)] at h
        injection h with h
        exact .inr (.inl ⟨a, d, c, rfl, hw, h.symm⟩)
      | ok l =>
        obtain ⟨hat, hro⟩ := writeTarget_eq_ok.1 hw
        by_cases hl : l = .cmd
        · subst hl
          rw [hostWrite_cmd (by rw [hp]; exact hw)] at h
          obtain ⟨v, hv, ht⟩ := thenNext_next.1 h
          exact .inr (.inr (.inl ⟨a, d, v, rfl, hat, hv, ht⟩))
        · rw [hostWrite_store (l := l) (by rw [hp]; exact hw) hl] at h
          injection h with h
          exact .inr (.inr (.inr (.inl ⟨a, d, l, rfl, hl, hro, hat, h.symm⟩)))

/-! What a store changes, field by field. -/

@[simp] theorem State.store_RC (s : State) (l : Loc) (d : Word) : (s.store l d).RC = s.RC := by
  cases l <;> simp [State.store, State.writeSeq]
@[simp] theorem State.store_DONE (s : State) (l : Loc) (d : Word) : (s.store l d).DONE = s.DONE := by
  cases l <;> simp [State.store, State.writeSeq]
@[simp] theorem State.store_ERR (s : State) (l : Loc) (d : Word) : (s.store l d).ERR = s.ERR := by
  cases l <;> simp [State.store, State.writeSeq]
@[simp] theorem State.store_msgDraw (s : State) (l : Loc) (d : Word) : (s.store l d).msgDraw = s.msgDraw := by
  cases l <;> simp [State.store, State.writeSeq]
@[simp] theorem State.store_params (s : State) (l : Loc) (d : Word) : (s.store l d).params = s.params := by
  cases l <;> simp [State.store, State.writeSeq]
@[simp] theorem State.store_host (s : State) (l : Loc) (d : Word) : (s.store l d).host = s.host := by
  cases l <;> simp [State.store, State.writeSeq]
@[simp] theorem State.store_responses (s : State) (l : Loc) (d : Word) : (s.store l d).responses = s.responses := by
  cases l <;> simp [State.store, State.writeSeq]
theorem State.store_LEN (s : State) (l : Loc) (d : Word) : (s.store l d).LEN = if l = .len then d else s.LEN := by
  cases l <;> simp [State.store, State.writeSeq]
theorem State.store_BLKIDX (s : State) (l : Loc) (d : Word) :
    (s.store l d).BLKIDX = if l = .blkidx then d else s.BLKIDX := by
  cases l <;> simp [State.store, State.writeSeq]
theorem State.store_RND (s : State) (l : Loc) (d : Word) :
    (s.store l d).RND = if l = .seq then d.extractLsb' 4 5 else s.RND := by
  cases l <;> simp [State.store, State.writeSeq]
theorem State.store_IDX (s : State) (l : Loc) (d : Word) :
    (s.store l d).IDX = if l = .seq then d.extractLsb' 0 4 else s.IDX := by
  cases l <;> simp [State.store, State.writeSeq]
theorem State.store_X (s : State) (l : Loc) (d : Word) : (s.store l d).X = if l = .x then d else s.X := by
  cases l <;> simp [State.store, State.writeSeq]
theorem State.store_BLK (s : State) (l : Loc) (d : Word) (k : Nat) (hk : k < 64) :
    (s.store l d).BLK[k] = if l = .blk ⟨k / 8, by omega⟩ then byteOf d (k % 8) else s.BLK[k] := by
  cases l with
  | blk j =>
    simp only [State.store, State.withBLK_BLK, setLanes_getElem, Loc.blk.injEq, Fin.ext_iff, eq_comm]
  | _ => simp [State.store, State.writeSeq]
theorem State.store_S (s : State) (l : Loc) (d : Word) (k : Nat) (hk : k < 128) :
    (s.store l d).S[k] = if l = .sw ⟨k / 8, by omega⟩ then byteOf d (k % 8) else s.S[k] := by
  cases l with
  | sw j =>
    simp only [State.store, State.withS_S, setLanes_getElem, Loc.sw.injEq, Fin.ext_iff, eq_comm]
  | _ => simp [State.store, State.writeSeq]
/-- The message window stores the eight bytes of the datum at its offset. -/
theorem State.store_readMsg (s : State) (l : Loc) (d : Word) (a x : Nat) (hl : l = .msg a) :
    (s.store l d).readMsg x = if a ≤ x ∧ x < a + 8 then byteOf d (x - a) else s.readMsg x := by
  subst hl
  exact readMsg_withLaneBytes s a d x
theorem State.store_MSG (s : State) (l : Loc) (d : Word) (hl : ∀ a, l ≠ .msg a) : (s.store l d).MSG = s.MSG := by
  cases l with
  | msg a => exact absurd rfl (hl a)
  | _ => simp [State.store, State.writeSeq]

/-- One location stands at an offset. -/
theorem Loc.At_inj {M a : Nat} {l k : Loc} (hl : l.At M a) (hk : k.At M a) : l = k := by
  have h := (locate_eq_ok.2 hl).symm.trans (locate_eq_ok.2 hk)
  injection h

end Sys2Proof.Machine
end

