-- ==== Sys2Proof/Laws/RoundConstant.lean ====
section
/-! SUPPORT. The parameter `STATE_HASH` (00_scope.md R8, 42_round_constant.md R110): every total function from 128 bytes
to `U64` is the value of some term, and the rolling hash as a term is the loop of R110. -/

namespace Sys2Proof.Machine

/-- A function of the first `n` bytes alone is the value of some term. -/
theorem evalHash_onto_prefix (n : Nat) (hn : n ≤ 128) (f : Vector Byte 128 → Word)
    (hf : ∀ B C : Vector Byte 128, (∀ (k : Nat) (hk : k < 128), k < n → B[k] = C[k]) → f B = f C) :
    ∃ t, ∀ B, evalHash t B = f B := by
  induction n generalizing f with
  | zero => exact ⟨.const (f (Vector.replicate 128 0#8)), fun B => hf _ _ fun _ _ h => absurd h (Nat.not_lt_zero _)⟩
  | succ n ih =>
    have fixed : ∀ b : Byte, ∃ t, ∀ B, evalHash t B = f (B.set n b hn) := fun b =>
      ih (Nat.le_of_lt hn) (fun B => f (B.set n b hn)) fun B C h => hf _ _ fun k hk hkn => by
        by_cases hnk : n = k
        · simp [hnk]
        · rw [Vector.getElem_set_ne _ _ hnk, Vector.getElem_set_ne _ _ hnk]
          exact h k hk (by omega)
    choose g hg using fixed
    have table : ∀ bs : List Byte, ∃ t, ∀ B, B[n] ∈ bs → evalHash t B = f B := by
      intro bs
      induction bs with
      | nil => exact ⟨.const 0#64, fun B hB => absurd hB List.not_mem_nil⟩
      | cons b bs step =>
        obtain ⟨u, hu⟩ := step
        refine ⟨.ifByte ⟨n, hn⟩ b (g b) u, fun B hB => ?_⟩
        by_cases h : B[n] = b
        · subst h
          simp [evalHash, hg]
        · have hB : B[n] ∈ bs := (List.mem_cons.1 hB).resolve_left h
          simp [evalHash, h, hu B hB]
    obtain ⟨t, ht⟩ := table ((List.finRange 256).map BitVec.ofFin)
    exact ⟨t, fun B => ht B (List.mem_map.2 ⟨B[n].toFin, List.mem_finRange _, rfl⟩)⟩

/-- Every total function from 128 bytes to `U64` is the value of some term: R8 leaves none out. -/
theorem evalHash_onto (f : Vector Byte 128 → Word) : ∃ t, ∀ B, evalHash t B = f B :=
  evalHash_onto_prefix 128 (Nat.le_refl _) f fun B C h => by
    rw [show B = C from Vector.ext fun k hk => h k hk hk]

/-- Every total function is the `STATE_HASH` of an engine that differs from a given one in that parameter alone. -/
theorem stateHash_onto (p : Params) (f : Vector Byte 128 → Word) :
    ∃ h : StateHash, ∀ B, stateHash { p with stateHash := h } B = f B := by
  obtain ⟨t, ht⟩ := evalHash_onto f
  exact ⟨.other t, ht⟩

/-- The widened byte as a term is `ext_64` of the byte. -/
theorem evalHash_widenedByte (signed : Bool) (k : Fin 128) (B : Vector Byte 128) :
    evalHash (widenedByte signed k) B = ext64 signed B[k] := by
  cases signed with
  | false => rfl
  | true =>
    show (zext64 B[k] ^^^ 0x80#64) + -0x80#64 = ext64 true B[k]
    generalize B[k] = b
    revert b
    decide +kernel

/-- The rolling hash as a term is the loop of R110 from its initial value on, with its multiplier. -/
theorem evalHash_rollingHash (signed : Bool) (init mult : Word) (B : Vector Byte 128) :
    evalHash (rollingHash signed init mult) B =
      (List.finRange 128).foldl (fun h k => h * mult + ext64 signed B[k]) init := by
  have loop : ∀ (ks : List (Fin 128)) (t : HashTerm),
      evalHash (ks.foldl (fun h k => .add (.mul h (.const mult)) (widenedByte signed k)) t) B =
        ks.foldl (fun h k => h * mult + ext64 signed B[k]) (evalHash t B) := by
    intro ks
    induction ks with
    | nil => exact fun _ => rfl
    | cons k ks ih =>
      intro t
      rw [List.foldl_cons, List.foldl_cons, ih]
      simp only [evalHash, evalHash_widenedByte]
  exact loop _ _

end Sys2Proof.Machine
end

