-- ==== Sys2Proof/Tests/Slice0.lean ====
section
/-! SUPPORT. Tests of the model's own: the operand check refuses ill-formed commands, every command's word decodes to it,
single steps give the values of 95_test_vectors.md and 95_test_vectors_permute_hash.md, and one witness for every
statement that has hypotheses. The expected values are the spec's; the vector is named in each comment. -/

namespace Sys2Proof.Tests

open Sys2Proof Sys2Proof.Machine Sys2Proof.Claims

/-- The next state of an outcome (the reset state for a stop, which no step answers). -/
def after (o : Host.Outcome State Fault Refusal) : State :=
  match o with
  | .next t => t
  | .fault _ => State.reset
  | .refused _ => State.reset

/-- The state after the host does one event. -/
def issue (e : Event) (s : State) : State := after (step (s.withHost [e]))

/-- The last response given. -/
def lastResponse (s : State) : Option Response := s.responses.getLast?

/-- The message bytes from offset 0 on, as memory cells. -/
def cells : Nat → List Byte → Memory
  | _, [] => []
  | a, b :: bs => (a, b) :: cells (a + 1) bs

/-- "abc" loaded, no fault pending. -/
def abc : State := { State.reset with LEN := 3#64, MSG := cells 0 [0x61#8, 0x62#8, 0x63#8] }

/-- "Hello World" loaded. -/
def hello : State :=
  { State.reset with
    LEN := 11#64
    MSG := cells 0 [0x48#8, 0x65#8, 0x6c#8, 0x6c#8, 0x6f#8, 0x20#8, 0x57#8, 0x6f#8, 0x72#8, 0x6c#8, 0x64#8] }

/-- A length no command of an engine with 4096 bytes of message memory accepts. -/
def long : State := { State.reset with LEN := 4097#64 }

/-- A fault pending. -/
def faulted : State := { State.reset with ERR := .illegalCommand, LEN := 3#64 }

/-! ## The operand check -/

theorem test_wellFormed_castep_256_refused : (Instr.castep 256).wellFormed = false := by decide
theorem test_wellFormed_castep_255 : (Instr.castep 255).wellFormed = true := by decide

/-! ## Decoding (V-ENC-1, V-ENC-2; 30_encoding.md R72) -/

theorem test_decode_nop : decodeTableWord 32 0x00000000 = some .nop := by decide
theorem test_decode_clear : decodeTableWord 32 0x01000000 = some .clear := by decide
theorem test_decode_seed : decodeTableWord 32 0x10000000 = some .seed := by decide
theorem test_decode_castep_0 : decodeTableWord 32 0x11000000 = some (.castep 0) := by decide
theorem test_decode_castep_64 : decodeTableWord 32 0x11000040 = some (.castep 64) := by decide
theorem test_decode_init : decodeTableWord 32 0x12000000 = some .init := by decide
theorem test_decode_padblk : decodeTableWord 32 0x20000000 = some .padblk := by decide
theorem test_decode_absorb : decodeTableWord 32 0x21000000 = some .absorb := by decide
theorem test_decode_rcgen : decodeTableWord 32 0x30000000 = some .rcgen := by decide
theorem test_decode_sbox : decodeTableWord 32 0x31000000 = some .sbox := by decide
theorem test_decode_wstep : decodeTableWord 32 0x32000000 = some .wstep := by decide
theorem test_decode_round : decodeTableWord 32 0x33000000 = some .round := by decide
theorem test_decode_permute : decodeTableWord 32 0x34000000 = some .permute := by decide
theorem test_decode_hash : decodeTableWord 32 0x40000000 = some .hash := by decide

/-- The nine illegal words of V-ENC-2. -/
def illegalWords : List Word :=
  [0x0000000002000000, 0x00000000FF000000, 0x0000000012000001, 0x0000000000000001, 0x0000000040000100,
   0x0000000011010000, 0x0000000100000000, 0x0000000140000000, 0xFFFFFFFFFFFFFFFF]

theorem test_decode_illegal : illegalWords.all (fun d => (decode d).toOption.isNone) = true := by decide

/-- V-ENC-2: written to `CMD` after reset each gives `STATUS` = 0x40. -/
theorem test_illegal_status :
    illegalWords.all (fun d => (issue (.write 0 d) State.reset).statusWord == 0x40#64) = true := by decide

/-- The thirteen words run as the first command after reset. -/
theorem test_fetch :
    [0x00000000, 0x01000000, 0x10000000, 0x11000000, 0x12000000, 0x20000000, 0x21000000, 0x30000000, 0x31000000,
      0x32000000, 0x33000000, 0x34000000, 0x40000000].all (fun w =>
        match step (State.reset.withFetchWord 32 w) with
        | .next t => t.host == []
        | .fault _ => false
        | .refused _ => false) = true := by decide +kernel

/-! ## One command at a time -/

/-- V-INIT-1. -/
theorem test_seed : (after (exec .seed abc)).S[0] = 0x0e#8 ∧ (after (exec .seed abc)).S[127] = 0x0d#8 := by decide

/-- V-INIT-1: the state SEED leaves for "abc". -/
def seeded : State := { abc with S := Vector.ofFn (fun i => if i.val % 3 = 0 then 0x0e#8 else if i.val % 3 = 1 then 0x0d#8 else 0x0c#8) }

/-- V-INIT-2, the first step. -/
theorem test_castep : (after (exec (.castep 1) seeded)).S[0] = 0x00#8 ∧
    (after (exec (.castep 1) seeded)).S[1] = 0x03#8 ∧ (after (exec (.castep 1) seeded)).S[126] = 0x03#8 := by decide

/-- V-INIT-10: the other edge policy. -/
theorem test_castep_carry :
    (after (exec (.castep 1) { seeded with params := { Params.defaults with caEdge := .carry } })).S[127] = 0x0d#8 := by
  decide +kernel

/-- R95: `BLKIDX` and `SEQ` go to 0. -/
theorem test_init : (after (exec .init { abc with BLKIDX := 9#64, RND := 3#5, IDX := 2#4 })).BLKIDX = 0#64 ∧
    (after (exec .init { abc with BLKIDX := 9#64, RND := 3#5, IDX := 2#4 })).seqWord = 0#64 := by decide

/-- V-PAD-1: a message byte, the marker, the fill, the last byte. -/
theorem test_padblk : (after (exec .padblk hello)).BLK[10] = 0x64#8 ∧ (after (exec .padblk hello)).BLK[11] = 0xd5#8 ∧
    (after (exec .padblk hello)).BLK[12] = 0x1c#8 ∧ (after (exec .padblk hello)).BLK[63] = 0xd7#8 := by decide

/-- V-FLT-1. -/
theorem test_padblk_blockRange :
    (after (exec .padblk { abc with BLKIDX := 1#64 })).statusWord = 0x30#64 := by decide

/-- 45_absorber_hash.md R147, the example, and the untouched half. -/
theorem test_absorb :
    (after (exec .absorb { State.reset with S := Vector.ofFn (fun i => if i.val % 2 = 1 then 3#8 else 0#8),
                                            BLK := Vector.ofFn (fun i => BitVec.ofNat 8 (0x61 + i.val)) })).S[1]
      = 0x61#8 ∧
    (after (exec .absorb { State.reset with S := Vector.ofFn (fun i => if i.val % 2 = 1 then 3#8 else 0#8),
                                            BLK := Vector.ofFn (fun i => BitVec.ofNat 8 (0x61 + i.val)) })).S[65]
      = 3#8 := by decide

/-- V-RC-2. -/
theorem test_rcgen : (after (exec .rcgen { State.reset with RND := 31#5 })).RC = 0x1D6EB7E201F8770A#64 := by
  decide +kernel

/-- V-SBOX-1. -/
theorem test_sbox : (after (exec .sbox { State.reset with X := 1#64 })).X = 0x3206487171480632#64 := by decide +kernel

/-- V-SBOX-1: the row in which the two kinds of shift differ. -/
theorem test_sbox_logical :
    (after (exec .sbox { State.reset with X := 0x0004000000000000#64,
                                          params := { Params.defaults with sboxShift := .logical } })).X
      = 0x2CA620DCDC20A62C#64 := by decide +kernel

/-- V-PERM-1 (a). -/
theorem test_wstep : wordAt .le (after (exec .wstep State.reset)).S 0 = 0x91CDFAF56F78CFD9#64 := by decide +kernel

/-- V-PERM-1 (g): the neighbours and the sequencer wrap; ROUND from word index 15 is one word-step (R134). -/
theorem test_round : wordAt .le (after (exec .round { State.reset with RND := 31#5, IDX := 15#4 })).S 15
    = 0x4C00C017B807D5D6#64 := by decide +kernel

theorem test_round_seq : (after (exec .round { State.reset with RND := 31#5, IDX := 15#4 })).seqWord = 0#64 := by
  decide +kernel

/-- V-FLT-1. -/
theorem test_hash_emptyInput : (after (exec .hash State.reset)).statusWord = 0x10#64 := by decide
theorem test_hash_lengthRange : (after (exec .hash long)).statusWord = 0x20#64 := by decide

/-- V-INIT-9. -/
theorem test_init_lengthRange : (after (exec .init long)).statusWord = 0x20#64 := by decide

/-- V-FLT-2: a pending fault ignores every command but CLEAR. -/
theorem test_permute_ignored : exec .permute faulted = .next faulted := rfl
theorem test_clear : (after (exec .clear faulted)).statusWord = 0#64 ∧ (after (exec .clear faulted)).LEN = 0#64 := by
  decide

/-- V-ENC-3. -/
theorem test_nop : (after (exec .nop { abc with DONE := true })).DONE = true ∧
    (after (exec (.castep 0) { abc with DONE := true })).DONE = false := by decide

/-! ## The port (V-MEM-1 to V-MEM-3) -/

theorem test_write_lanes : (issue (.write 0x80 0x0706050403020100#64) State.reset).S[6] = 6#8 := by decide
theorem test_write_msg : (issue (.write 0x1000 0x636261#64) State.reset).MSG =
    cells 0 [0x61#8, 0x62#8, 0x63#8, 0#8, 0#8, 0#8, 0#8, 0#8] := by decide
theorem test_seq_mask : (issue (.write 0x20 0xFFFFFFFFFFFFFFFF#64) State.reset).seqWord = 0x1FF#64 := by decide
theorem test_bus_errors :
    [Event.read 0x0004, .write 0x0004 0x40000000#64, .read 0x0038, .read 0x0100, .read 0x0FF8, .read 0x2000,
      .write 0x0008 0#64, .write 0x0028 1#64, .read 0x1001].all (fun e =>
        issue e State.reset == State.reset.respond .busError) = true := by decide +kernel
theorem test_last_window_word : (locate 4096 0x1FF8).toOption = some (.msg 0xFF8) := by decide

/-! ## Witnesses: for every statement with hypotheses, a state and operands that meet them all, and for each of its
clauses a value at the boundary of the clause. -/

theorem witness_DecodeOfEncodeIsIdentity : (Instr.castep 255).wellFormed = true ∧ Instr.hash.wellFormed = true := by
  decide
theorem witness_LegalCommandsAreExactlyRuleR73 :
    legal 0x11000000#64 ∧ legal 0x110000FF#64 ∧ ¬ legal 0x11000100#64 ∧ legal 0x40000000#64 ∧ ¬ legal 0x10FFFFFF#64 := by
  unfold legal; decide
theorem witness_DecodedCommandReencodes : decode 0x110000FF#64 = .ok (.castep 255) := by decide
theorem witness_StepRunsDecodedCommand :
    { abc with host := [.write 0x0000 0x40000000#64] }.host = .write 0x0000 0x40000000#64 :: [] ∧
      decode 0x40000000#64 = .ok .hash := by decide
theorem witness_CommandWriteFollowsRuleR75 :
    abc.ERR = .none ∧ faulted.ERR ≠ .none ∧ 0x02000000#64 ≠ 0#64 ∧ ¬ legal 0x02000000#64 ∧ legal 0x20000000#64 ∧
      0x01000001#64 ≠ 0x01000000#64 := by unfold legal; decide
/-- The last clause of R75's statement: a legal command that faults. -/
theorem witness_CommandWriteFollowsRuleR75_fault :
    (issue (.write 0x0000 0x40000000#64) State.reset).ERR ≠ .none := by decide
theorem witness_IllegalValuesRaiseIllegalCommand :
    abc.ERR = .none ∧ (0x02000000#64).extractLsb' 24 8 ∉ opValues ∧ (0x00000100#64).extractLsb' 8 16 ≠ 0#16 ∧
      (0x100000000#64).extractLsb' 32 32 ≠ 0#32 ∧
      ((0x40000001#64).extractLsb' 0 8 ≠ 0#8 ∧ (0x40000001#64).extractLsb' 24 8 ≠ 0x11#8) := by decide
theorem witness_PendingFaultIgnoresCommands : faulted.ERR ≠ .none := by decide
theorem witness_SeedWritesTheSeedArray :
    abc.ERR = .none ∧ abc.LEN ≠ 0#64 ∧ abc.LEN.toNat ≤ abc.params.msgBytes := by decide
theorem witness_InitializerLengthFaults :
    State.reset.ERR = .none ∧ State.reset.LEN = 0#64 ∧ long.ERR = .none ∧ long.params.msgBytes < long.LEN.toNat ∧
      long.LEN ≠ 0#64 := by decide
theorem witness_CastepIsTheRepeatedCellRule : seeded.ERR = .none ∧ seeded.params.caEdge = .zero := by decide
theorem witness_CastepIsTheRepeatedCellRule_carry :
    { seeded with params := { Params.defaults with caEdge := .carry } }.params.caEdge = .carry := by decide
theorem witness_ZeroEdgeAndConstantArrays :
    abc.ERR = .none ∧ abc.params.caEdge = .zero ∧ abc.LEN ≠ 0#64 ∧ abc.LEN.toNat ≤ abc.params.msgBytes := by decide
/-- A constant array, and a message whose first bytes are equal. -/
theorem witness_ZeroEdgeAndConstantArrays_constant :
    (∀ k : Fin 128, State.reset.S[k] = 0#8) ∧
      (∀ a : Fin 1, { State.reset with LEN := 1#64, MSG := cells 0 [0x61#8] }.readMsg a.val = 0x61#8) := by decide
theorem witness_CellularAutomatonBitPlanes :
    seeded.ERR = .none ∧ State.reset.ERR = .none ∧ State.reset.params.caEdge = seeded.params.caEdge ∧
      (∀ k : Fin 128, seeded.S[k].getLsbD 7 = State.reset.S[k].getLsbD 7) := by decide +kernel
theorem witness_InitIsSeedThenSixtyFourSteps :
    hello.ERR = .none ∧ hello.LEN ≠ 0#64 ∧ hello.LEN.toNat ≤ hello.params.msgBytes := by decide
theorem witness_PadblkFaultOrder :
    long.params.msgBytes < long.LEN.toNat ∧ abc.LEN.toNat ≤ abc.params.msgBytes ∧
      abc.LEN.toNat / 64 + 1 ≤ { abc with BLKIDX := 1#64 }.BLKIDX.toNat := by decide
/-- The clauses of the padded block: a copied byte, the marker, a fill byte, the last byte of the block. -/
theorem witness_PadblkWritesThePaddedBlock :
    hello.ERR = .none ∧ 11 = hello.LEN.toNat ∧ 64 = 64 * (11 / 64 + 1) ∧ 11 ≤ hello.params.msgBytes ∧
      hello.BLKIDX.toNat < 11 / 64 + 1 ∧ 10 < 11 ∧ (11 = 11 ∧ 11 ≠ 64 - 1) ∧ (11 < 62 ∧ 62 ≠ 64 - 1) ∧
      (11 < 63 ∧ 63 = 64 - 1) := by decide
/-- The clause in which the marker is the last byte: `LEN = 63`; and the empty message. -/
theorem witness_PadblkWritesThePaddedBlock_edges :
    { State.reset with LEN := 63#64 }.LEN.toNat = 64 * (63 / 64 + 1) - 1 ∧ State.reset.LEN.toNat = 0 ∧
      State.reset.BLKIDX.toNat < 0 / 64 + 1 := by decide
theorem witness_PadByteIsTheSourceProcedure : 0 < newlen 0 ∧ 127 < newlen 64 ∧ 63 < newlen 63 := by decide
theorem witness_no_fault_pending : abc.ERR = .none ∧ seeded.ERR = .none := by decide
theorem witness_polyhash : Params.defaults.stateHash = .polyhash31 := by decide

/-- The engine of V-VAR-5: `polyhash31` with initial value 1 as its `STATE_HASH`. -/
def variant5 : State :=
  State.resetWith { Params.defaults with stateHash := .other (rollingHash false 1#64 31#64) } 0 []

/-- V-VAR-5's state hash of 128 zero bytes, by hand: 1 multiplied by 31 for each byte. -/
theorem test_stateHash_variant5 : stateHash variant5.params variant5.S = BitVec.ofNat 64 (31 ^ 128) := by
  decide +kernel
/-- The term of the signed rolling hash, by hand: byte 127 is -1, every other byte 0. -/
theorem test_rollingHash_signed :
    evalHash (rollingHash true 0#64 31#64) (Vector.ofFn (fun i => if i.val = 127 then 0xff#8 else 0#8)) =
      BitVec.allOnes 64 := by decide +kernel
theorem witness_AnyTotalFunctionCanBeTheStateHash :
    variant5.ERR = .none ∧ variant5.params.stateHash = .other (rollingHash false 1#64 31#64) := ⟨rfl, rfl⟩
theorem witness_SboxAppliesTheFiveSteps :
    abc.ERR = .none ∧ 1#64 = 1#64 ^^^ ((1#64 <<< 7) &&& 0x9E3779B97F4A7C15#64) ∧ 0x2000#64 = (1#64).rotateLeft 13 ∧
      0x2000#64 = 0x2000#64 ^^^ ((0x2000#64).sshiftRight 11 &&& 0xD6E8FEB8A#64) ∧
      0x32A6A94736E1A000#64 = 0x2000#64 * 0xA3B195354A39B70D#64 := by decide +kernel
/-- V-PERM-1 (a): the chain of values of one word-step, and the two cases of the sequencer. -/
theorem witness_WstepMixesOneWord :
    State.reset.ERR = .none ∧ (0 : Fin 16).val = State.reset.IDX.toNat ∧
      0x8DEE15C8D6FC176C#64 = (0#64 + 0x646F70AE46B7E0BB#64).rotateLeft (0 % 7 + 5) ∧
      0xAE9590BAE34312B7#64 =
        0x8DEE15C8D6FC176C#64 ^^^ (0x646F70AE46B7E0BB#64 <<< 3 ||| 0x646F70AE46B7E0BB#64 >>> 61) ∧
      0xA3639163F91361EB#64 = 0xAE9590BAE34312B7#64 * 0x5DEECE66D#64 ∧ State.reset.IDX ≠ 15#4 ∧
      { State.reset with IDX := 15#4 }.IDX = 15#4 := by decide +kernel
theorem witness_HashComputesTheDigest :
    3 = abc.LEN.toNat ∧ abc.ERR = .none ∧ abc.LEN ≠ 0#64 ∧ 3 ≤ abc.params.msgBytes := by decide
theorem witness_StagedExecutionEqualsHash :
    abc.ERR = .none ∧ abc.LEN ≠ 0#64 ∧ abc.LEN.toNat ≤ abc.params.msgBytes ∧ abc.RND = 0#5 ∧ abc.IDX = 0#4 := by decide
theorem witness_HashAndInitIgnoreHistory :
    abc.ERR = .none ∧ seeded.ERR = .none ∧ seeded.LEN = abc.LEN ∧ seeded.params = abc.params ∧ abc.LEN ≠ 0#64 ∧
      abc.LEN.toNat ≤ abc.params.msgBytes ∧ seeded.S ≠ abc.S ∧
      (∀ a : Fin 3, seeded.readMsg a.val = abc.readMsg a.val) := by decide +kernel
theorem witness_CommandsReadOnlyTheMessage :
    ∀ a : Fin 3, State.readMsg { abc with MSG := cells 0 [0x61#8, 0x62#8, 0x63#8, 0xFF#8], msgDraw := 7 } a.val
      = abc.readMsg a.val := by decide
theorem witness_commands_complete : exec .clear faulted = .next (after (exec .clear faulted)) ∧
    exec (.castep 1) seeded = .next (after (exec (.castep 1) seeded)) := ⟨rfl, rfl⟩
/-- The register clauses whose premise is a change: each of these registers does change in a listed command. -/
theorem witness_RegistersChangeOnlyInTheirCommands :
    (after (exec .clear faulted)).LEN ≠ faulted.LEN ∧ (after (exec .padblk hello)).BLKIDX ≠ hello.BLKIDX ∧
      (after (exec .padblk hello)).BLK ≠ hello.BLK ∧ (after (exec .seed abc)).S ≠ abc.S ∧
      (after (exec .init { abc with IDX := 1#4 })).IDX ≠ 1#4 := by decide +kernel
theorem witness_RegistersChangeOnlyInTheirCommands_RC_X :
    (after (exec .sbox { State.reset with X := 1#64 })).X ≠ 1#64 ∧
      (after (exec .rcgen State.reset)).RC ≠ State.reset.RC := by decide +kernel
theorem witness_RegistersChangeOnlyInTheirCommands_DONE : (State.hashEffect abc).DONE = true ∧ abc.DONE = false :=
  ⟨rfl, rfl⟩
theorem witness_FaultsArePreciseAndListed :
    exec .hash State.reset = .next { State.reset with ERR := .emptyInput } ∧
      exec .padblk long = .next { long with ERR := .lengthRange } ∧
      exec .padblk { abc with BLKIDX := 1#64 } = .next { abc with BLKIDX := 1#64, ERR := .blockRange } := ⟨rfl, rfl, rfl⟩
theorem witness_PendingFaultEndsOnlyByClearOrReset :
    step { faulted with host := [.reset] } = .next faulted.resetEngine ∧ faulted.ERR ≠ .none ∧
      faulted.resetEngine.ERR ≠ faulted.ERR := ⟨rfl, by decide, by decide⟩
/-- The edges of the map: the last scalar and the hole after it, the ends of the two arrays and the hole after them, the
ends of the window, a misaligned offset. -/
theorem witness_map_edges :
    [0x0000, 0x0030, 0x0040, 0x0078, 0x0080, 0x00F8, 0x1000, 0x1FF8].all (fun a => (locate 4096 a).toOption.isSome) ∧
      [0x0038, 0x0100, 0x0FF8, 0x2000, 0x0004, 0x1001].all (fun a => (locate 4096 a).toOption.isNone) := by decide
theorem witness_mapped :
    mapped 4096 0x0000 ∧ mapped 4096 0x0030 ∧ mapped 4096 0x0078 ∧ mapped 4096 0x00F8 ∧ mapped 4096 0x1FF8 :=
  ⟨.inl ⟨0, by decide⟩, .inl ⟨6, by decide⟩, .inr (.inl ⟨7, by decide⟩), .inr (.inr (.inl ⟨15, by decide⟩)),
    .inr (.inr (.inr ⟨511, by decide⟩))⟩
theorem witness_unmapped : ¬ mapped 4096 0x0038 ∧ ¬ mapped 4096 0x0100 ∧ ¬ mapped 4096 0x2000 ∧ ¬ mapped 4096 0x0004 := by
  unfold mapped; omega
/-- The hypotheses of the statements about the port: the next event, at a location that can be written. -/
theorem witness_port_write :
    { abc with host := [.write 0x0020 5#64, .read 0x0020] }.host = .write 0x0020 5#64 :: .read 0x0020 :: [] ∧
      mapped 4096 0x0020 ∧ abc.params.msgBytes = 4096 ∧ 0x0020 ≠ 0x0000 ∧ 0x0020 ≠ 0x0008 ∧ 0x0020 ≠ 0x0028 :=
  ⟨rfl, .inl ⟨4, by decide⟩, rfl, by decide⟩
theorem witness_EveryStepAnswersOneEvent :
    State.reset.host = [] ∧ { abc with host := [.reset] }.host = .reset :: [] ∧
      { abc with host := [.read 8] }.host = .read 8 :: [] ∧ Event.read 8 ≠ .reset := by decide
theorem witness_ResetLeavesTheResetValues :
    { abc with host := [.reset] }.host = .reset :: [] ∧
      step { abc with host := [.reset] } = .next { State.reset with msgDraw := 1 } := ⟨rfl, rfl⟩
/-- The premises of the four clauses: a HASH write that sets `DONE`, another command, a store, a reset. -/
theorem witness_DoneIsSetByHashAlone :
    step { abc with host := [.write 0x0000 0x40000000#64] } = .next ((State.hashEffect abc).respond .ok) ∧
      ((State.hashEffect abc).respond .ok).DONE = true ∧ abc.DONE = false :=
  ⟨rfl, rfl, rfl⟩
theorem witness_DoneIsSetByHashAlone_others :
    (issue (.write 0x0000 0x31000000#64) { abc with DONE := true }).DONE = false ∧
      (issue (.write 0x0030 5#64) { abc with DONE := true }).DONE = false ∧
      (issue .reset { abc with DONE := true }).DONE = false := by decide +kernel
theorem witness_DigestValidIsKept : abc.digestValid ∧ step abc = .next abc := ⟨nofun, rfl⟩
theorem witness_WellFormedIsKept : abc.wf ∧ step abc = .next abc := ⟨⟨by decide, by decide, by decide⟩, rfl⟩
theorem witness_MsgScriptLoadsTheMessage :
    State.reset.params.wf = true ∧ [0x61#8, 0x62#8, 0x63#8].length ≤ State.reset.params.msgBytes ∧
      { State.reset with host := (Stmt.msg [0x61#8, 0x62#8, 0x63#8]).events ++ [] }.host =
        (Stmt.msg [0x61#8, 0x62#8, 0x63#8]).events ++ [] := by decide
theorem witness_HostProcedureReadsTheDigest :
    State.reset.params.wf = true ∧ State.reset.ERR = .none ∧ 1 ≤ [0x61#8, 0x62#8, 0x63#8].length ∧
      [0x61#8, 0x62#8, 0x63#8].length ≤ State.reset.params.msgBytes ∧
      { State.reset with host := scriptEvents [.msg [0x61#8, 0x62#8, 0x63#8], .cmd .hash, .rd .status, .digest] }.host =
        scriptEvents [.msg [0x61#8, 0x62#8, 0x63#8], .cmd .hash, .rd .status, .digest] := by decide

end Sys2Proof.Tests
end

/-! SUPPORT. What no command touches: the message memory, the parameters and the host's two lists (10_state.md R20, R40;
20_memory.md R55). Each command's own frame lemmas are gathered here into one statement about every write to `CMD`. -/

namespace Sys2Proof.Machine

/-- `t` differs from `s` in registers alone. -/
structure SameButRegisters (s t : State) : Prop where
  MSG : t.MSG = s.MSG
  msgDraw : t.msgDraw = s.msgDraw
  params : t.params = s.params
  host : t.host = s.host
  responses : t.responses = s.responses

namespace SameButRegisters

theorem refl (s : State) : SameButRegisters s s := ⟨rfl, rfl, rfl, rfl, rfl⟩

theorem trans {s t u : State} (h : SameButRegisters s t) (k : SameButRegisters t u) : SameButRegisters s u :=
  ⟨k.MSG.trans h.MSG, k.msgDraw.trans h.msgDraw, k.params.trans h.params, k.host.trans h.host,
    k.responses.trans h.responses⟩

end SameButRegisters

theorem clearDone_sameButRegisters (s : State) : SameButRegisters s s.clearDone := ⟨rfl, rfl, rfl, rfl, rfl⟩

theorem raiseFault_sameButRegisters (s : State) (e : ErrCode) : SameButRegisters s (s.raiseFault e) :=
  ⟨rfl, rfl, rfl, rfl, rfl⟩

/-- A fault writes registers alone, so a guarded command does when its effect does. -/
theorem guarded_sameButRegisters (s : State) (f : Option ErrCode) {effect : State → State}
    (h : SameButRegisters s (effect s)) : SameButRegisters s (s.guarded f effect) := by
  rcases guarded_cases s f effect with ⟨e, -, hg⟩ | ⟨-, hg⟩
  · rw [hg]
    exact raiseFault_sameButRegisters s e
  · rw [hg]
    exact h

/-- The effect of every command, one frame lemma per field. -/
theorem effectOf_sameButRegisters (i : Instr) (s : State) : SameButRegisters s (effectOf i s) := by
  cases i with
  | nop => exact .refl s
  | seed => exact guarded_sameButRegisters s _ (by constructor <;> simp)
  | init => exact guarded_sameButRegisters s _ (by constructor <;> simp)
  | padblk => exact guarded_sameButRegisters s _ (by constructor <;> simp)
  | hash => exact guarded_sameButRegisters s _ (by constructor <;> simp)
  | _ => constructor <;> simp [effectOf]

/-- An accepted command writes registers alone when its effect does; an ignored one writes nothing. -/
theorem accept_sameButRegisters {s t : State} {effect : State → State}
    (hf : ∀ u, SameButRegisters u (effect u)) (h : accept s effect = .next t) : SameButRegisters s t := by
  rcases accept_next h with ⟨-, rfl⟩ | ⟨-, rfl⟩
  · exact (clearDone_sameButRegisters s).trans (hf _)
  · exact .refl _

theorem exec_sameButRegisters {i : Instr} {s t : State} (h : exec i s = .next t) : SameButRegisters s t := by
  rcases exec_next h with ⟨-, rfl⟩ | ⟨-, rfl⟩ | ⟨-, -, -, rfl⟩ | ⟨-, -, -, rfl⟩
  · exact .refl _
  · exact effectOf_sameButRegisters .clear s
  · exact .refl _
  · exact (clearDone_sameButRegisters s).trans (effectOf_sameButRegisters i _)

/-- A write to `CMD`, legal or not, writes registers alone. -/
theorem commandWrite_sameButRegisters {d : Word} {s t : State} (h : commandWrite d s = .next t) :
    SameButRegisters s t := by
  unfold commandWrite at h
  cases hd : decode d with
  | ok i =>
    rw [hd] at h
    exact exec_sameButRegisters h
  | error c =>
    rw [hd] at h
    exact accept_sameButRegisters (fun u => raiseFault_sameButRegisters u _) h

end Sys2Proof.Machine

/-! PROOF. A step answers a next state and takes one event (70_reset_and_hazards.md R191, 20_memory.md R50): settles
O47. -/

namespace Sys2Proof.Machine

theorem hostWrite_next (a : Nat) (d : Word) (s : State) : ∃ t, hostWrite a d s = .next t := by
  cases hw : writeTarget s.params.msgBytes a with
  | error c => exact ⟨_, hostWrite_busError hw⟩
  | ok l =>
    by_cases hl : l = .cmd
    · subst hl
      obtain ⟨v, hv⟩ := commandWrite_next d s
      exact ⟨v.respond .ok, (hostWrite_cmd hw).trans (thenNext_next.2 ⟨v, hv, rfl⟩)⟩
    · exact ⟨_, hostWrite_store hw hl⟩

theorem perform_next (e : Event) (s : State) : ∃ t, perform e s = .next t := by
  cases e with
  | read a => exact ⟨_, perform_read a s⟩
  | write a d => exact hostWrite_next a d s
  | reset => exact ⟨_, perform_reset s⟩

/-- The step is total: the engine never halts (R191). -/
theorem step_next (s : State) : ∃ t, step s = .next t := by
  cases hh : s.host with
  | nil => exact ⟨s, step_idle hh⟩
  | cons e rest =>
    rw [step_event hh]
    exact perform_next e _

/-- What a step does outside the registers and the message memory: nothing to the parameters; the event is taken; a
transaction appends one response and a reset none. -/
theorem step_event_frame {s t : State} {e : Event} {rest : List Event} (hh : s.host = e :: rest)
    (h : step s = .next t) :
    t.params = s.params ∧ t.host = rest ∧
      ((e = .reset ∧ t.responses = s.responses) ∨ (e ≠ .reset ∧ ∃ r, t.responses = s.responses ++ [r])) := by
  rcases step_cases h with ⟨hnil, -⟩ | ⟨e', rest', u, hh', rfl, hcase⟩
  · rw [hh] at hnil
    cases hnil
  · rw [hh] at hh'
    injection hh' with he hr
    subst he hr
    rcases hcase with ⟨a, rfl, rfl⟩ | ⟨a, d, c, rfl, -, rfl⟩ | ⟨a, d, v, rfl, -, hv, rfl⟩ |
      ⟨a, d, l, rfl, -, -, -, rfl⟩ | ⟨rfl, rfl⟩
    · exact ⟨rfl, rfl, .inr ⟨nofun, _, rfl⟩⟩
    · exact ⟨rfl, rfl, .inr ⟨nofun, _, rfl⟩⟩
    · have frame := commandWrite_sameButRegisters hv
      exact ⟨frame.params, frame.host, .inr ⟨nofun, .ok, by simp [frame.responses]⟩⟩
    · exact ⟨by simp, by simp, .inr ⟨nofun, .ok, by simp⟩⟩
    · exact ⟨rfl, rfl, .inl ⟨rfl, rfl⟩⟩

/-- No step changes the parameters (10_state.md R40). -/
theorem step_params {s t : State} (h : step s = .next t) : t.params = s.params := by
  cases hh : s.host with
  | nil =>
    rw [step_idle hh] at h
    injection h with h
    rw [h]
  | cons e rest => exact (step_event_frame hh h).1

/-- Settles O47: the step is total, and its frame says what becomes of the event and the responses. -/
theorem everyStepAnswersOneEvent : Obligations.EveryStepAnswersOneEvent := by
  intro s
  obtain ⟨t, ht⟩ := step_next s
  refine ⟨t, ht, step_params ht, fun hnil => ?_, fun e rest hh => ?_⟩
  · rw [step_idle hnil] at ht
    injection ht with ht
    exact ht.symm
  · obtain ⟨-, hhost, ⟨rfl, hresp⟩ | ⟨hne, hresp⟩⟩ := step_event_frame hh ht
    · exact ⟨hhost, fun _ => hresp, fun hne => absurd rfl hne⟩
    · exact ⟨hhost, fun he => absurd he hne, fun _ => hresp⟩

end Sys2Proof.Machine

/-! PROOF. The well-formedness invariant (00_scope.md R8, 10_state.md R37) at reset and over a step: settles O53 and
O52. Of all that a step can do, only a store in the message window adds to the message memory. -/

namespace Sys2Proof.Machine

/-- Well-formedness looks at the parameters and the message memory only. -/
theorem State.wf_of_same {s t : State} (h : s.wf) (hp : t.params = s.params) (hm : t.MSG = s.MSG) : t.wf := by
  unfold State.wf
  rw [hp, hm]
  exact h

/-- An empty message memory is well formed in an engine with parameters R8 allows. -/
theorem State.wf_of_MSG_nil {t : State} (hp : t.params.wf = true) (hm : t.MSG = []) : t.wf := by
  unfold State.wf
  rw [hm]
  exact ⟨hp, List.Pairwise.nil, nofun⟩

theorem Params.msgBytes_mod_eight {p : Params} (h : p.wf = true) : p.msgBytes % 8 = 0 := by
  simp only [Params.wf, Bool.and_eq_true, beq_iff_eq] at h
  obtain ⟨⟨h8, -⟩, -⟩ := h
  exact h8

/-- A word of the message window lies inside the memory with all its eight bytes, since `MSG_BYTES` is a multiple of 8
(20_memory.md R53). -/
theorem Loc.At_msg_le {p : Params} {a addr : Nat} (hp : p.wf = true) (h : (Loc.msg a).At p.msgBytes addr) :
    a + 8 ≤ p.msgBytes := by
  obtain ⟨-, ha, hlt⟩ := h
  have h8 := Params.msgBytes_mod_eight hp
  omega

/-- A store at a mapped location keeps a state well formed. -/
theorem State.store_wf {s : State} {l : Loc} {addr : Nat} (h : s.wf) (hat : l.At s.params.msgBytes addr) (d : Word) :
    (s.store l d).wf := by
  cases l with
  | msg a =>
    obtain ⟨hp, hm, hlt⟩ := h
    have room := Loc.At_msg_le hp hat
    refine ⟨hp, Memory.writeBytes_wf hm a, fun c hc => ?_⟩
    show c.1 < s.params.msgBytes
    rcases Memory.mem_writeBytes hc with ⟨-, hc⟩ | hc
    · rw [laneBytes_length] at hc
      omega
    · exact hlt c hc
  | _ => exact State.wf_of_same h (State.store_params s _ d) (State.store_MSG s _ d nofun)

/-- Every step keeps a state well formed. -/
theorem step_wf {s t : State} (h : s.wf) (hst : step s = .next t) : t.wf := by
  rcases step_cases hst with ⟨-, rfl⟩ | ⟨e, rest, u, -, rfl, hcase⟩
  · exact h
  · have hu : (s.withHost rest).wf := h
    rcases hcase with ⟨a, -, rfl⟩ | ⟨a, d, c, -, -, rfl⟩ | ⟨a, d, v, -, -, hv, rfl⟩ |
      ⟨a, d, l, -, -, -, hat, rfl⟩ | ⟨-, rfl⟩
    · exact hu
    · exact hu
    · have frame := commandWrite_sameButRegisters hv
      exact State.wf_of_same hu frame.params frame.MSG
    · exact State.wf_of_same (State.store_wf hu hat d) rfl rfl
    · exact State.wf_of_MSG_nil hu.1 rfl

/-- Settles O53: the defaults are values R8 allows, and nothing is listed after reset. -/
theorem wellFormedAtReset : Obligations.WellFormedAtReset :=
  State.wf_of_MSG_nil (by decide) rfl

/-- Settles O52, by the cases of a step. -/
theorem wellFormedIsKept : Obligations.WellFormedIsKept := fun _ _ => step_wf

end Sys2Proof.Machine

/-! PROOF. The round constant as the loop of 42_round_constant.md R111, written with folds over the indices, and RCGEN
with any total function as `STATE_HASH` (00_scope.md R8): settles O56. -/

namespace Sys2Proof.Machine

open Sys2Proof.Claims

/-- `ext_64` of the model is `ext_64` of the statements (00_scope.md R13). -/
theorem ext64_eq_widen (signed : Bool) (b : Byte) : ext64 signed b = widen signed b := rfl

/-- A counted loop as a fold over its indices. -/
theorem repeatTimes_eq_foldl_range {α : Type} (n : Nat) (f : α → α) (x : α) :
    repeatTimes n f x = (List.range n).foldl (fun y _ => f y) x := by
  induction n with
  | zero => rfl
  | succ n ih => rw [repeatTimes_succ, ih, List.range_succ, List.foldl_concat]

/-- The bytes of an array with their indices, in ascending order. -/
theorem toList_zipIdx {n : Nat} (B : Vector Byte n) :
    B.toList.zipIdx = (List.finRange n).map (fun i => (B[i], i.val)) := by
  apply List.ext_getElem
  · simp
  · intro k hk hk'
    simp

/-- The byte loop as a fold over the bytes with their indices. -/
theorem byteRounds_eq_foldl_zipIdx (signed : Bool) (bs : List Byte) (i : Nat) (seed : Word) :
    byteRounds signed i bs seed = (bs.zipIdx i).foldl (fun seed c => byteRound signed c.2 c.1 seed) seed := by
  induction bs generalizing i seed with
  | nil => rfl
  | cons b bs ih => exact ih (i + 1) _

/-- The byte loop of R111 over an array, index by index. -/
theorem byteRounds_eq_foldl_finRange (signed : Bool) {n : Nat} (B : Vector Byte n) (seed : Word) :
    byteRounds signed 0 B.toList seed =
      (List.finRange n).foldl (fun seed i => byteRound signed i.val B[i] seed) seed := by
  rw [byteRounds_eq_foldl_zipIdx, toList_zipIdx, List.foldl_map]

/-- One iteration of the byte loop with Lean's own rotation and R9's literal. -/
theorem byteRound_eq (signed : Bool) (i : Nat) (b : Byte) (seed : Word) :
    byteRound signed i b seed = (seed ^^^ widen signed b * 0xA3B195354A39B70D#64).rotateLeft (i % 13 + 3) := by
  rw [← ext64_eq_widen]
  exact rotl64_eq_rotateLeft _ _ (show i % 13 + 3 < 64 by omega)

/-- One closing round with Lean's own rotation and R9's literals. -/
theorem closingRound_eq (seed : Word) :
    closingRound seed = (seed * 0x41C64E6D#64 + 0x3039#64).rotateLeft 17 :=
  rotl64_eq_rotateLeft _ 17 (by decide)

/-- `roundConstant` is the rule's two loops from the rule's seed on (R111). -/
theorem roundConstant_eq_ruleLoop (p : Params) (r : Nat) (B : Vector Byte 128) :
    roundConstant p r B =
      (List.range 8).foldl (fun seed _ => (seed * 0x41C64E6D#64 + 0x3039#64).rotateLeft 17)
        ((List.finRange 128).foldl
          (fun seed i => (seed ^^^ widen p.byteSigned B[i] * 0xA3B195354A39B70D#64).rotateLeft (i.val % 13 + 3))
          (stateHash p B ^^^ BitVec.ofNat 64 r * 0x9E3779B97F4A7C15#64)) := by
  simp only [roundConstant, K_GOLD, repeatTimes_eq_foldl_range, byteRounds_eq_foldl_finRange, byteRound_eq,
    closingRound_eq]

/-- RCGEN with no fault pending: `RC` and `DONE`, and nothing else (R113). The value written is a variable, so that
nothing evaluates a round constant. -/
theorem exec_rcgen {s : State} {rc : Word} (h : s.ERR = .none)
    (hrc : roundConstant s.params s.RND.toNat s.S = rc) :
    ∃ t, exec .rcgen s = .next t ∧ t.RC = rc ∧ t = { s with RC := t.RC, DONE := false } ∧
      (∀ a, t.readMsg a = s.readMsg a) := by
  have hexec : exec .rcgen s = .next (s.clearDone.withRC rc) := by
    rw [← hrc]
    exact accept_of_none h State.rcgenEffect
  exact ⟨_, hexec, rfl, rfl, fun _ => rfl⟩

theorem stateHash_of_other {p : Params} {t : HashTerm} (h : p.stateHash = .other t) (B : Vector Byte 128) :
    stateHash p B = evalHash t B := by
  simp only [stateHash, h]

/-- Settles O56: a term with the value `f` is the parameter, and RCGEN runs the rule's loop from its value on. -/
theorem anyTotalFunctionCanBeTheStateHash : Obligations.AnyTotalFunctionCanBeTheStateHash := by
  intro f
  obtain ⟨term, hterm⟩ := evalHash_onto f
  refine ⟨.other term, fun s herr hparam => ?_⟩
  have hrc := roundConstant_eq_ruleLoop s.params s.RND.toNat s.S
  rw [stateHash_of_other hparam, hterm] at hrc
  exact exec_rcgen herr hrc

end Sys2Proof.Machine

/-! PROOF. Which command writes which register (10_state.md R20): a register's own commands beside `effectOf`, and one
lemma that carries what every effect keeps over to `exec`. Settles O38 and O39. -/

namespace Sys2Proof.Machine

/-- A quantity that neither a fault nor the effect changes, a guarded command does not change. -/
theorem State.guarded_keeps {β : Type} (g : State → β) {s : State} {f : Option ErrCode} {effect : State → State}
    (hfault : ∀ e, g (s.raiseFault e) = g s) (heffect : g (effect s) = g s) : g (s.guarded f effect) = g s := by
  rcases guarded_cases s f effect with ⟨e, -, hg⟩ | ⟨-, hg⟩
  · rw [hg, hfault]
  · rw [hg, heffect]

section
variable {s : State} {f : Option ErrCode} {effect : State → State}

@[simp] theorem State.guarded_S (h : (effect s).S = s.S) : (s.guarded f effect).S = s.S :=
  State.guarded_keeps State.S (fun _ => rfl) h
@[simp] theorem State.guarded_BLK (h : (effect s).BLK = s.BLK) : (s.guarded f effect).BLK = s.BLK :=
  State.guarded_keeps State.BLK (fun _ => rfl) h
@[simp] theorem State.guarded_LEN (h : (effect s).LEN = s.LEN) : (s.guarded f effect).LEN = s.LEN :=
  State.guarded_keeps State.LEN (fun _ => rfl) h
@[simp] theorem State.guarded_BLKIDX (h : (effect s).BLKIDX = s.BLKIDX) : (s.guarded f effect).BLKIDX = s.BLKIDX :=
  State.guarded_keeps State.BLKIDX (fun _ => rfl) h
@[simp] theorem State.guarded_RND (h : (effect s).RND = s.RND) : (s.guarded f effect).RND = s.RND :=
  State.guarded_keeps State.RND (fun _ => rfl) h
@[simp] theorem State.guarded_IDX (h : (effect s).IDX = s.IDX) : (s.guarded f effect).IDX = s.IDX :=
  State.guarded_keeps State.IDX (fun _ => rfl) h
@[simp] theorem State.guarded_RC (h : (effect s).RC = s.RC) : (s.guarded f effect).RC = s.RC :=
  State.guarded_keeps State.RC (fun _ => rfl) h
@[simp] theorem State.guarded_X (h : (effect s).X = s.X) : (s.guarded f effect).X = s.X :=
  State.guarded_keeps State.X (fun _ => rfl) h

/-- A fault leaves `DONE` at 0, so a guarded effect that does not set it leaves it at 0. -/
@[simp] theorem State.guarded_DONE (h : (effect s).DONE = false) : (s.guarded f effect).DONE = false := by
  rcases guarded_cases s f effect with ⟨e, -, hg⟩ | ⟨-, hg⟩
  · rw [hg, State.raiseFault_DONE]
  · rw [hg, h]

end

theorem effectOf_LEN {i : Instr} (hi : i ≠ .clear) (s : State) : (effectOf i s).LEN = s.LEN := by
  cases i <;> simp [effectOf] at hi ⊢

theorem effectOf_X {i : Instr} (hi : ¬ (i = .sbox ∨ i = .clear)) (s : State) : (effectOf i s).X = s.X := by
  cases i <;> simp [effectOf] at hi ⊢

theorem effectOf_BLK {i : Instr} (hi : ¬ (i = .padblk ∨ i = .hash ∨ i = .clear)) (s : State) :
    (effectOf i s).BLK = s.BLK := by
  cases i <;> simp [effectOf] at hi ⊢

theorem effectOf_BLKIDX {i : Instr} (hi : ¬ (i = .init ∨ i = .padblk ∨ i = .hash ∨ i = .clear)) (s : State) :
    (effectOf i s).BLKIDX = s.BLKIDX := by
  cases i <;> simp [effectOf] at hi ⊢

theorem effectOf_SEQ {i : Instr}
    (hi : ¬ (i = .init ∨ i = .wstep ∨ i = .round ∨ i = .permute ∨ i = .hash ∨ i = .clear)) (s : State) :
    (effectOf i s).RND = s.RND ∧ (effectOf i s).IDX = s.IDX := by
  cases i <;> simp [effectOf] at hi ⊢

theorem effectOf_RC {i : Instr}
    (hi : ¬ (i = .rcgen ∨ i = .wstep ∨ i = .round ∨ i = .permute ∨ i = .hash ∨ i = .clear)) (s : State) :
    (effectOf i s).RC = s.RC := by
  cases i <;> simp [effectOf] at hi ⊢

theorem effectOf_S {i : Instr}
    (hi : ¬ (i = .seed ∨ (∃ n, i = .castep n) ∨ i = .init ∨ i = .absorb ∨ i = .wstep ∨ i = .round ∨ i = .permute ∨
      i = .hash ∨ i = .clear)) (s : State) : (effectOf i s).S = s.S := by
  cases i <;> simp [effectOf] at hi ⊢

/-- Only HASH sets `DONE` (10_state.md R34). -/
theorem effectOf_DONE {i : Instr} (hi : i ≠ .hash) {s : State} (hs : s.DONE = false) :
    (effectOf i s).DONE = false := by
  cases i <;> simp [effectOf, hs] at hi ⊢

/-- What the clearing of `DONE` and the command's effect keep, the command keeps: executed, ignored or faulting. -/
theorem exec_keeps {β : Type} (g : State → β) (hdone : ∀ s, g s.clearDone = g s) {i : Instr}
    (heffect : ∀ s, g (effectOf i s) = g s) {s t : State} (h : exec i s = .next t) : g t = g s := by
  rcases exec_next h with ⟨-, rfl⟩ | ⟨rfl, rfl⟩ | ⟨-, -, -, rfl⟩ | ⟨-, -, -, rfl⟩
  · rfl
  · exact heffect s
  · rfl
  · rw [heffect, hdone]

/-- After a command `DONE` is 1 only where the command changed nothing, or was a fault-free HASH (R34, 30_encoding.md
R75). -/
theorem exec_done {i : Instr} {s t : State} (h : exec i s = .next t) (hd : t.DONE = true) :
    (t = s ∧ (i = .nop ∨ s.ERR ≠ .none)) ∨ (i = .hash ∧ s.ERR = .none ∧ s.lengthOk ∧ t = s.clearDone.hashEffect) := by
  rcases exec_next h with ⟨hi, ht⟩ | ⟨-, rfl⟩ | ⟨-, -, he, ht⟩ | ⟨-, -, he, rfl⟩
  · exact .inl ⟨ht, .inl hi⟩
  · exact absurd hd (by simp)
  · exact .inl ⟨ht, .inr he⟩
  · by_cases hi : i = .hash
    · subst hi
      rcases guarded_cases s.clearDone s.clearDone.initFault State.hashEffect with ⟨e, -, hg⟩ | ⟨hf, hg⟩
      · rw [effectOf, hg, State.raiseFault_DONE] at hd
        cases hd
      · exact .inr ⟨rfl, he, (initFault_eq_none s.clearDone).1 hf, hg⟩
    · rw [effectOf_DONE hi (State.clearDone_DONE s)] at hd
      cases hd

/-- Settles O38: the frame of every command, and the bytes read from a message memory that is the same. -/
theorem commandsNeverWriteTheMessage : Obligations.CommandsNeverWriteTheMessage := by
  intro i s t h
  have frame := exec_sameButRegisters h
  refine ⟨frame.MSG, frame.msgDraw, fun a => ?_, frame.params, frame.host, frame.responses⟩
  rw [State.readMsg, State.readMsg, frame.MSG, frame.msgDraw]

/-- Settles O39: a command outside a register's list keeps the register. -/
theorem registersChangeOnlyInTheirCommands : Obligations.RegistersChangeOnlyInTheirCommands := by
  intro i s t h
  refine ⟨fun hne => ?_, fun hne => ?_, fun hne => ?_, fun hne => ?_, fun hne => ?_, fun hne => ?_, fun hne => ?_,
    fun ht hs => ?_, fun herr hnop hhash => ?_⟩
  · by_contra hi
    exact hne (exec_keeps State.LEN (fun _ => rfl) (effectOf_LEN hi) h)
  · by_contra hi
    exact hne (exec_keeps State.X (fun _ => rfl) (effectOf_X hi) h)
  · by_contra hi
    exact hne (exec_keeps State.BLK (fun _ => rfl) (effectOf_BLK hi) h)
  · by_contra hi
    exact hne (exec_keeps State.BLKIDX (fun _ => rfl) (effectOf_BLKIDX hi) h)
  · by_contra hi
    rcases hne with hne | hne
    · exact hne (exec_keeps State.RND (fun _ => rfl) (fun s => (effectOf_SEQ hi s).1) h)
    · exact hne (exec_keeps State.IDX (fun _ => rfl) (fun s => (effectOf_SEQ hi s).2) h)
  · by_contra hi
    exact hne (exec_keeps State.RC (fun _ => rfl) (effectOf_RC hi) h)
  · by_contra hi
    exact hne (exec_keeps State.S (fun _ => rfl) (effectOf_S hi) h)
  · rcases exec_done h ht with ⟨rfl, -⟩ | ⟨hi, -⟩
    · rw [hs] at ht
      cases ht
    · exact hi
  · by_contra ht
    rcases exec_done h (Bool.eq_true_of_not_eq_false ht) with ⟨-, hi | hpending⟩ | ⟨hi, -⟩
    · exact hnop hi
    · exact hpending herr
    · exact hhash hi

end Sys2Proof.Machine

/-! PROOF. A write to `CMD` and the flags: `DONE` rises in a fault-free HASH alone, and a pending fault ends by CLEAR or
reset alone (10_state.md R34, R35; 30_encoding.md R75; 60_exceptions.md R162, R163): settles O41 and O49. -/

namespace Sys2Proof.Machine

/-- A row of the opcode map names its command's opcode, and the command has no operand (30_encoding.md R72). -/
theorem formatZ_opcode : ∀ row ∈ formatZ, row.1.toNat = row.2.opcode ∧ row.2.immediate = 0 := by decide

/-- A value is its four fields (30_encoding.md R70). -/
theorem toNat_eq_fields (d : Word) :
    d.toNat = (fieldHi d).toNat * 2 ^ 32 + (fieldOp d).toNat * 2 ^ 24 + (fieldRsv d).toNat * 2 ^ 8 +
      (fieldImm8 d).toNat := by
  have hd := d.isLt
  simp only [fieldHi, fieldOp, fieldRsv, fieldImm8, BitVec.extractLsb'_toNat, Nat.shiftRight_eq_div_pow]
  omega

/-- The fields of a value that decodes are those of its command (30_encoding.md R72, R73). -/
theorem fields_of_decode {d : Word} {i : Instr} (h : decode d = .ok i) :
    fieldHi d = 0 ∧ fieldRsv d = 0 ∧ (fieldOp d).toNat = i.opcode ∧ (fieldImm8 d).toNat = i.immediate := by
  unfold decode at h
  split at h
  · cases h
  split at h
  · cases h
  rename_i hhi hrsv
  refine ⟨not_not.1 hhi, not_not.1 hrsv, ?_⟩
  split at h
  · rename_i hop
    injection h with h
    subst h
    exact ⟨by rw [hop]; rfl, rfl⟩
  split at h
  · cases h
  rename_i row hrow
  split at h
  · cases h
  rename_i himm
  injection h with h
  subst h
  obtain ⟨hopcode, himmediate⟩ := formatZ_opcode row (List.mem_of_find?_eq_some hrow)
  have hfound : row.1 = fieldOp d := by simpa using List.find?_some hrow
  exact ⟨by rw [← hfound, hopcode], by rw [himmediate, not_not.1 himm]; rfl⟩

/-- A value that decodes is the encoding of its command. -/
theorem encode_of_decode {d : Word} {i : Instr} (h : decode d = .ok i) : encode i = d := by
  obtain ⟨hhi, hrsv, hop, himm⟩ := fields_of_decode h
  have hd : d.toNat = i.opcode * 2 ^ 24 + i.immediate := by
    rw [toNat_eq_fields d, hhi, hrsv, hop, himm]
    simp
  rw [encode, ← hd, BitVec.ofNat_toNat, BitVec.setWidth_eq]

theorem step_commandWrite {s : State} {d : Word} {rest : List Event} (hh : s.host = .write 0x0000 d :: rest) :
    step s = thenNext (commandWrite d (s.withHost rest)) (fun t => t.respond .ok) := by
  rw [step_event hh]
  exact hostWrite_cmd (writeTarget_eq_ok.2 ⟨rfl, rfl⟩)

theorem step_store {s : State} {a : Nat} {d : Word} {rest : List Event} {l : Loc} (hh : s.host = .write a d :: rest)
    (hat : l.At s.params.msgBytes a) (hro : l.readOnly = false) (hcmd : l ≠ .cmd) :
    step s = .next (((s.withHost rest).store l d).clearDone.respond .ok) := by
  rw [step_event hh]
  exact hostWrite_store (writeTarget_eq_ok.2 ⟨hat, hro⟩) hcmd

theorem step_reset {s : State} {rest : List Event} (hh : s.host = .reset :: rest) :
    step s = .next (s.withHost rest).resetEngine := by
  rw [step_event hh, perform_reset]

/-- A write to `CMD` executes a command, or raises IllegalCommand when it is accepted (30_encoding.md R75). -/
theorem commandWrite_cases {d : Word} {s t : State} (h : commandWrite d s = .next t) :
    (∃ i, decode d = .ok i ∧ exec i s = .next t) ∨
      (s.ERR = .none ∧ t = s.clearDone.raiseFault .illegalCommand) ∨ (s.ERR ≠ .none ∧ t = s) := by
  unfold commandWrite at h
  cases hd : decode d with
  | ok i =>
    rw [hd] at h
    exact .inl ⟨i, rfl, h⟩
  | error c =>
    rw [hd] at h
    exact .inr (accept_next h)

/-- After a write to `CMD` `DONE` is 1 only where the write changed nothing, or was a fault-free HASH. -/
theorem commandWrite_done {d : Word} {s t : State} (h : commandWrite d s = .next t) (hd : t.DONE = true) :
    (t = s ∧ (d = encode .nop ∨ s.ERR ≠ .none)) ∨
      (d = encode .hash ∧ s.ERR = .none ∧ s.lengthOk ∧ t = s.clearDone.hashEffect) := by
  rcases commandWrite_cases h with ⟨i, hdec, hexec⟩ | ⟨-, rfl⟩ | ⟨he, rfl⟩
  · have henc := (encode_of_decode hdec).symm
    rcases exec_done hexec hd with ⟨ht, rfl | he⟩ | ⟨rfl, hhash⟩
    · exact .inl ⟨ht, .inl henc⟩
    · exact .inl ⟨ht, .inr he⟩
    · exact .inr ⟨henc, hhash⟩
  · cases hd
  · exact .inl ⟨rfl, .inr he⟩

/-- While a fault is pending a write to `CMD` changes nothing unless it is the CLEAR word (60_exceptions.md R162). -/
theorem commandWrite_of_pending {d : Word} {s t : State} (he : s.ERR ≠ .none) (h : commandWrite d s = .next t) :
    t = s ∨ (d = encode .clear ∧ t = s.clearRegisters) := by
  rcases commandWrite_cases h with ⟨i, hdec, hexec⟩ | ⟨hnone, -⟩ | ⟨-, ht⟩
  · rcases exec_next hexec with ⟨-, ht⟩ | ⟨rfl, ht⟩ | ⟨-, -, -, ht⟩ | ⟨-, -, hnone, -⟩
    · exact .inl ht
    · exact .inr ⟨(encode_of_decode hdec).symm, ht⟩
    · exact .inl ht
    · exact absurd hnone he
  · exact absurd hnone he
  · exact .inl ht

theorem commandWrite_clear (s : State) : commandWrite 0x0000000001000000#64 s = .next s.clearRegisters := by
  rw [commandWrite, show decode 0x0000000001000000#64 = .ok .clear by decide]
  rfl

/-- Settles O41: of all that a step can do, only CLEAR and a reset write `ERR` while a fault is pending. -/
theorem pendingFaultEndsOnlyByClearOrReset : Obligations.PendingFaultEndsOnlyByClearOrReset := by
  intro s t h he
  refine ⟨fun hne => ?_, fun rest hh => ?_⟩
  · rcases step_cases h with ⟨-, rfl⟩ | ⟨e, rest, u, hh, rfl, hcase⟩
    · exact absurd rfl hne
    · rcases hcase with ⟨a, -, rfl⟩ | ⟨a, d, c, -, -, rfl⟩ | ⟨a, d, v, rfl, rfl, hv, rfl⟩ |
        ⟨a, d, l, -, -, -, -, rfl⟩ | ⟨rfl, -⟩
      · exact absurd rfl hne
      · exact absurd rfl hne
      · rcases commandWrite_of_pending (s := s.withHost rest) he hv with rfl | ⟨rfl, -⟩
        · exact absurd rfl hne
        · exact ⟨rest, .inl hh⟩
      · exact absurd (by simp) hne
      · exact ⟨rest, .inr hh⟩
  · rcases hh with hh | hh
    · rw [step_commandWrite hh, commandWrite_clear] at h
      injection h with h
      rw [← h, State.respond_ERR, State.clearRegisters_ERR]
    · rw [step_reset hh] at h
      injection h with h
      rw [← h, State.resetEngine_ERR]

/-- Every mapped offset is that of a location (20_memory.md R53). -/
theorem Loc.exists_at_of_mapped {M a : Nat} (h : Claims.mapped M a) : ∃ l : Loc, l.At M a := by
  rcases h with ⟨q, hq, rfl⟩ | ⟨j, hj, rfl⟩ | ⟨m, hm, rfl⟩ | ⟨q, hq, rfl⟩
  · interval_cases q
    exacts [⟨.cmd, rfl⟩, ⟨.status, rfl⟩, ⟨.len, rfl⟩, ⟨.blkidx, rfl⟩, ⟨.seq, rfl⟩, ⟨.rc, rfl⟩, ⟨.x, rfl⟩]
  · exact ⟨.blk ⟨j, hj⟩, rfl⟩
  · exact ⟨.sw ⟨m, hm⟩, rfl⟩
  · exact ⟨.msg (8 * q), rfl, by omega, by omega⟩

/-- Every mapped offset but those of `CMD`, `STATUS` and `RC` is that of a location a write stores in (R54). -/
theorem Loc.exists_writable_of_mapped {M a : Nat} (h : Claims.mapped M a) (hcmd : a ≠ 0x0000) (hstatus : a ≠ 0x0008)
    (hrc : a ≠ 0x0028) : ∃ l : Loc, l.At M a ∧ l.readOnly = false ∧ l ≠ .cmd := by
  obtain ⟨l, hl⟩ := Loc.exists_at_of_mapped h
  refine ⟨l, hl, ?_, fun h => hcmd (by subst h; exact hl)⟩
  cases l with
  | status => exact absurd hl hstatus
  | rc => exact absurd hl hrc
  | _ => rfl

/-- Settles O49: by the cases of a step, with `commandWrite_done` where the event is a write to `CMD`. -/
theorem doneIsSetByHashAlone : Obligations.DoneIsSetByHashAlone := by
  intro s t h
  refine ⟨fun ht hs => ?_, fun d rest hh herr hnop hhash => ?_, fun a d rest hh hcmd hstatus hrc hm => ?_,
    fun rest hh => ?_⟩
  · have stays : t.DONE ≠ s.DONE := by rw [ht, hs]; decide
    rcases step_cases h with ⟨-, rfl⟩ | ⟨e, rest, u, hh, rfl, hcase⟩
    · exact absurd rfl stays
    · rcases hcase with ⟨a, -, rfl⟩ | ⟨a, d, c, -, -, rfl⟩ | ⟨a, d, v, rfl, rfl, hv, rfl⟩ |
        ⟨a, d, l, -, -, -, -, rfl⟩ | ⟨-, rfl⟩
      · exact absurd rfl stays
      · exact absurd rfl stays
      · rcases commandWrite_done hv ht with ⟨rfl, -⟩ | ⟨rfl, herr, -, rfl⟩
        · exact absurd rfl stays
        · exact ⟨rest, hh, herr, by simpa using herr⟩
      · cases ht
      · cases ht
  · rw [step_commandWrite hh] at h
    obtain ⟨v, hv, rfl⟩ := thenNext_next.1 h
    by_contra ht
    rcases commandWrite_done hv (Bool.eq_true_of_not_eq_false ht) with ⟨-, rfl | hpending⟩ | ⟨rfl, -⟩
    · exact hnop rfl
    · exact hpending herr
    · exact hhash rfl
  · obtain ⟨l, hat, hro, hl⟩ := Loc.exists_writable_of_mapped hm hcmd hstatus hrc
    rw [step_store hh hat hro hl] at h
    injection h with h
    rw [← h, State.respond_DONE, State.clearDone_DONE]
  · rw [step_reset hh] at h
    injection h with h
    rw [← h, State.resetEngine_DONE]

end Sys2Proof.Machine

/-! PROOF. PERMUTE as the nested loops of 44_permutation.md R132, rounds outermost, and HASH as the blocks absorbed in
order (45_absorber_hash.md R146, R148). -/

namespace Sys2Proof.Machine

/-- The working state and the round constant: what a word-step computes (44_permutation.md R133). -/
def State.mixed (s : State) : Vector Byte 128 × Word := (s.S, s.RC)

/-- The word-steps of round `r` at the words of a list, in order (R132). -/
def roundOn (p : Params) (r : Nat) (is : List (Fin 16)) (acc : Vector Byte 128 × Word) : Vector Byte 128 × Word :=
  is.foldl (fun acc i => wordStep p r i acc.1) acc

/-- Whole rounds, in the order of a list (R132). -/
def roundsOn (p : Params) (rs : List Nat) (acc : Vector Byte 128 × Word) : Vector Byte 128 × Word :=
  rs.foldl (fun acc r => roundOn p r (List.finRange 16) acc) acc

theorem permuteWithConstant_eq_roundsOn (p : Params) (S : Vector Byte 128) :
    permuteWithConstant p S = roundsOn p (List.range rounds) (S, 0#64) := (rfl)

theorem roundOn_take_succ (p : Params) (r : Nat) {n : Nat} (hn : n < 16) (acc : Vector Byte 128 × Word) :
    roundOn p r ((List.finRange 16).take (n + 1)) acc =
      wordStep p r ⟨n, hn⟩ (roundOn p r ((List.finRange 16).take n) acc).1 := by
  have hlen : n < (List.finRange 16).length := by rwa [List.length_finRange]
  rw [List.take_succ_eq_append_getElem hlen, roundOn, List.foldl_concat, List.getElem_finRange]
  rfl

theorem roundsOn_range_succ (p : Params) (n : Nat) (acc : Vector Byte 128 × Word) :
    roundsOn p (List.range (n + 1)) acc = roundOn p n (List.finRange 16) (roundsOn p (List.range n) acc) := by
  rw [List.range_succ, roundsOn, List.foldl_concat, roundsOn]

/-- The first word-step looks at the array alone, so the constant the loops start with does not matter. -/
theorem roundsOn_range_congr (p : Params) (n : Nat) (S : Vector Byte 128) (rc rc' : Word) :
    roundsOn p (List.range (n + 1)) (S, rc) = roundsOn p (List.range (n + 1)) (S, rc') := by
  have hround : roundOn p 0 (List.finRange 16) (S, rc) = roundOn p 0 (List.finRange 16) (S, rc') := by
    simp only [roundOn, List.finRange_succ, List.foldl_cons]
  simp only [roundsOn, List.range_succ_eq_map, List.foldl_cons, hround]

theorem State.wstepEffect_mixed (s : State) :
    s.wstepEffect.mixed = wordStep s.params s.RND.toNat s.wordIndex s.mixed.1 := by
  simp only [State.mixed, State.wstepEffect_S, State.wstepEffect_RC]

theorem repeatTimes_wstepEffect_params (n : Nat) (s : State) :
    (repeatTimes n State.wstepEffect s).params = s.params :=
  repeatTimes_proj State.params _ State.wstepEffect_params n s

/-- `n ≤ 16` word-steps from the start of a round mix its first `n` words; the sixteenth moves `SEQ` to the next
round (10_state.md R30). -/
theorem repeatTimes_wstepEffect {s : State} (h0 : s.IDX = 0#4) (n : Nat) (hn : n ≤ 16) :
    (repeatTimes n State.wstepEffect s).mixed =
        roundOn s.params s.RND.toNat ((List.finRange 16).take n) s.mixed ∧
      (repeatTimes n State.wstepEffect s).IDX = BitVec.ofNat 4 n ∧
      (repeatTimes n State.wstepEffect s).RND = if n = 16 then s.RND + 1#5 else s.RND := by
  induction n with
  | zero => exact ⟨rfl, h0, rfl⟩
  | succ n ih =>
    obtain ⟨hmixed, hidx, hrnd⟩ := ih (by omega)
    rw [if_neg (show n ≠ 16 by omega)] at hrnd
    have hword : (repeatTimes n State.wstepEffect s).wordIndex = ⟨n, hn⟩ := by
      apply Fin.ext
      simp only [State.wordIndex, hidx, BitVec.toNat_ofNat]
      omega
    have hlast : (BitVec.ofNat 4 n = 15#4) ↔ n + 1 = 16 := by
      rw [← BitVec.toNat_inj, BitVec.toNat_ofNat, BitVec.toNat_ofNat]
      omega
    rw [repeatTimes_succ]
    refine ⟨?_, ?_, ?_⟩
    · rw [State.wstepEffect_mixed, repeatTimes_wstepEffect_params, hword, hrnd, hmixed, roundOn_take_succ]
    · rw [State.wstepEffect_IDX, hidx, BitVec.ofNat_add]
    · rw [State.wstepEffect_RND, hidx, hrnd]
      simp only [hlast]

/-- `n ≤ 32` rounds of word-steps from `SEQ` = (0, 0). -/
theorem repeatTimes_wstepEffect_rounds {s : State} (hidx : s.IDX = 0#4) (hrnd : s.RND = 0#5) (n : Nat) (hn : n ≤ 32) :
    (repeatTimes (n * wordsPerRound) State.wstepEffect s).mixed = roundsOn s.params (List.range n) s.mixed ∧
      (repeatTimes (n * wordsPerRound) State.wstepEffect s).IDX = 0#4 ∧
      (repeatTimes (n * wordsPerRound) State.wstepEffect s).RND = BitVec.ofNat 5 n := by
  induction n with
  | zero => exact ⟨rfl, hidx, hrnd⟩
  | succ n ih =>
    obtain ⟨ihmixed, ihidx, ihrnd⟩ := ih (by omega)
    obtain ⟨hmixed, hi, hr⟩ := repeatTimes_wstepEffect ihidx 16 (Nat.le_refl _)
    rw [Nat.succ_mul, repeatTimes_add]
    refine ⟨?_, hi, ?_⟩
    · rw [hmixed, ihmixed, ihrnd, repeatTimes_wstepEffect_params, roundsOn_range_succ, BitVec.toNat_ofNat,
        Nat.mod_eq_of_lt (show n < 2 ^ 5 by omega), List.take_of_length_le (by rw [List.length_finRange])]
    · rw [hr, if_pos rfl, ihrnd, BitVec.ofNat_add]

/-- PERMUTE computes `permute(S)` and the constant of its last word-step, whatever `SEQ` and `RC` were (R135). -/
theorem State.permuteEffect_mixed (s : State) : s.permuteEffect.mixed = permuteWithConstant s.params s.S := by
  obtain ⟨hmixed, -, -⟩ := repeatTimes_wstepEffect_rounds (s := s.withSEQ 0#5 0#4) (rfl) (rfl) rounds (Nat.le_refl _)
  rw [State.permuteEffect, hmixed, permuteWithConstant_eq_roundsOn]
  exact roundsOn_range_congr s.params 31 s.S s.RC 0#64

theorem State.permuteEffect_S (s : State) : s.permuteEffect.S = permute s.params s.S := by
  rw [permute, ← s.permuteEffect_mixed, State.mixed]

theorem State.absorbEffect_S (s : State) : s.absorbEffect.S = absorbBlock s.S s.BLK := (rfl)

theorem State.padEffect_BLK (s : State) :
    s.padEffect.BLK = padBlock s.readMsg s.LEN.toNat s.BLKIDX.toNat := (rfl)

theorem State.padEffect_BLKIDX (s : State) : s.padEffect.BLKIDX = s.BLKIDX + 1#64 := (rfl)

/-- One repetition of HASH absorbs the padded block `BLKIDX` and permutes (45_absorber_hash.md R148). -/
theorem State.hashBlock_S (s : State) :
    s.hashBlock.S =
      permute s.params (absorbBlock s.S (padBlock s.readMsg s.LEN.toNat s.BLKIDX.toNat)) := by
  rw [State.hashBlock, State.permuteEffect_S, State.absorbEffect_params, State.padEffect_params, State.absorbEffect_S,
    State.padEffect_S, State.padEffect_BLK]

theorem State.hashBlock_BLKIDX (s : State) : s.hashBlock.BLKIDX = s.BLKIDX + 1#64 := by
  rw [State.hashBlock, State.permuteEffect_BLKIDX, State.absorbEffect_BLKIDX, State.padEffect_BLKIDX]

/-- The number of blocks of a message a 64-bit length can name is itself a 64-bit number (10_state.md R38). -/
theorem nblk_lt (L : Word) : nblk L.toNat < 2 ^ 64 := by
  have hL := L.isLt
  unfold nblk blockBytes
  omega

/-- After `n` repetitions of the loop of HASH the blocks `0..n-1` are absorbed (R146, R148). -/
theorem repeatTimes_hashBlock (s : State) (n : Nat) (hn : n ≤ nblk s.LEN.toNat) :
    (repeatTimes n State.hashBlock s.initEffect).S = absorbBlocks s.params s.readMsg s.LEN.toNat n ∧
      (repeatTimes n State.hashBlock s.initEffect).BLKIDX = BitVec.ofNat 64 n := by
  induction n with
  | zero => exact ⟨rfl, rfl⟩
  | succ n ih =>
    obtain ⟨hS, hblk⟩ := ih (by omega)
    have hlt : n < 2 ^ 64 := by have := nblk_lt s.LEN; omega
    rw [repeatTimes_succ]
    refine ⟨?_, ?_⟩
    · rw [State.hashBlock_S, hS, hblk, repeatTimes_proj State.params _ State.hashBlock_params,
        repeatTimes_proj State.readMsg _ State.hashBlock_readMsg, repeatTimes_proj State.LEN _ State.hashBlock_LEN,
        State.initEffect_params, State.initEffect_readMsg, State.initEffect_LEN, BitVec.toNat_ofNat,
        Nat.mod_eq_of_lt hlt, absorbBlocks, absorbBlocks, List.range_succ, List.foldl_concat]
    · rw [State.hashBlock_BLKIDX, hblk, BitVec.ofNat_add]

/-- HASH leaves the final state of `hash(MSG, LEN)` in `S` (R146, R148). -/
theorem State.hashEffect_S (s : State) : s.hashEffect.S = hashState s.params s.readMsg s.LEN.toNat := by
  rw [State.hashEffect, State.setDone_S, hashState]
  exact (repeatTimes_hashBlock s _ (Nat.le_refl _)).1

end Sys2Proof.Machine

/-! PROOF. The digest invariant (10_state.md R34, 70_reset_and_hazards.md R185) over a step and at reset: settles O50
and O51. -/

namespace Sys2Proof.Machine

/-- HASH with a length it accepts establishes the invariant. -/
theorem State.hashEffect_digestValid {s : State} (herr : s.ERR = .none) (hlen : s.lengthOk) :
    s.hashEffect.digestValid := by
  intro _
  rw [State.lengthOk, State.hashEffect_ERR, State.hashEffect_LEN, State.hashEffect_params, State.hashEffect_readMsg,
    State.hashEffect_S]
  exact ⟨herr, hlen, rfl⟩

/-- A write to `CMD` keeps the invariant: where it leaves `DONE` at 1 it changed nothing or was a fault-free HASH. -/
theorem commandWrite_digestValid {d : Word} {s t : State} (hs : s.digestValid) (h : commandWrite d s = .next t) :
    t.digestValid := by
  intro ht
  rcases commandWrite_done h ht with ⟨rfl, -⟩ | ⟨-, herr, hlen, rfl⟩
  · exact hs ht
  · exact State.hashEffect_digestValid (s := s.clearDone) herr hlen ht

/-- Settles O50, by the cases of a step: reads and bus errors leave what the invariant speaks of, a store and a reset
clear `DONE`. -/
theorem digestValidIsKept : Obligations.DigestValidIsKept := by
  intro s t hs h
  rcases step_cases h with ⟨-, rfl⟩ | ⟨e, rest, u, -, rfl, hcase⟩
  · exact hs
  · have hu : (s.withHost rest).digestValid := hs
    rcases hcase with ⟨a, -, rfl⟩ | ⟨a, d, c, -, -, rfl⟩ | ⟨a, d, v, -, -, hv, rfl⟩ |
      ⟨a, d, l, -, -, -, -, rfl⟩ | ⟨-, rfl⟩
    · exact hu
    · exact hu
    · have hdigest : v.digestValid := commandWrite_digestValid hu hv
      exact hdigest
    · exact nofun
    · exact nofun

/-- Settles O51: `DONE` is 0 after reset. -/
theorem digestValidAtReset : Obligations.DigestValidAtReset := nofun

end Sys2Proof.Machine

/-! PROOF. No command depends on a message byte at or above `LEN` (10_state.md R37, 20_memory.md R56): every effect
commutes with the replacement of the message memory by one that reads the same below `LEN`. Settles O37. -/

namespace Sys2Proof.Machine

/-- Replace the message memory: the bytes written and the values of the others. -/
def State.withMemory (s : State) (m : Memory) (draw : Nat) : State := { s with MSG := m, msgDraw := draw }

/-- The message bytes `MSG[0..LEN-1]` are the same in the replacement. -/
def State.AgreesBelowLen (s : State) (m : Memory) (draw : Nat) : Prop :=
  ∀ a, a < s.LEN.toNat → (s.withMemory m draw).readMsg a = s.readMsg a

/-- Agreement looks at `LEN` and the message only. -/
theorem State.agreesBelowLen_of_same {s t : State} {m : Memory} {draw : Nat} (h : s.AgreesBelowLen m draw)
    (hlen : t.LEN = s.LEN) (hread : t.readMsg = s.readMsg) : t.AgreesBelowLen m draw := by
  intro a ha
  rw [hlen] at ha
  rw [hread]
  exact h a ha

/-- An effect that gives the same with the message memory replaced. -/
def CommutesAt (effect : State → State) (s : State) (m : Memory) (draw : Nat) : Prop :=
  effect (s.withMemory m draw) = (effect s).withMemory m draw

/-! The functions of the message look at its first `L` bytes only. -/

theorem seedState_congr {M M' : Nat → Byte} {L : Nat} (hL : 0 < L) (h : ∀ a, a < L → M' a = M a) :
    seedState M' L = seedState M L := by
  unfold seedState
  congr 1
  funext i
  rw [h _ (Nat.mod_lt _ hL)]

theorem initializeState_congr (edge : CaEdge) {M M' : Nat → Byte} {L : Nat} (hL : 0 < L)
    (h : ∀ a, a < L → M' a = M a) : initializeState edge M' L = initializeState edge M L := by
  rw [initializeState, initializeState, seedState_congr hL h]

theorem padByte_congr {M M' : Nat → Byte} {L : Nat} (h : ∀ a, a < L → M' a = M a) (p : Nat) :
    padByte M' L p = padByte M L p := by
  have copied : (if p < L then M' p else fillByte p) = if p < L then M p else fillByte p := by
    split
    · exact h p ‹_›
    · rfl
  simp only [padByte, copied]

theorem padBlock_congr {M M' : Nat → Byte} {L : Nat} (h : ∀ a, a < L → M' a = M a) (b : Nat) :
    padBlock M' L b = padBlock M L b := by
  simp only [padBlock, padByte_congr h]

/-! The effects. -/

theorem toNat_pos_of_ne_zero {L : Word} (h : L ≠ 0#64) : 0 < L.toNat :=
  Nat.pos_of_ne_zero fun h0 => h (BitVec.eq_of_toNat_eq h0)

/-- A loop commutes with what each of its repetitions commutes with. -/
theorem repeatTimes_commutes {α : Type} (P : α → Prop) {f g : α → α} (hkeep : ∀ x, P x → P (f x))
    (hcomm : ∀ x, P x → f (g x) = g (f x)) (n : Nat) (x : α) (hx : P x) :
    repeatTimes n f (g x) = g (repeatTimes n f x) := by
  induction n generalizing x with
  | zero => rfl
  | succ n ih => rw [repeatTimes, repeatTimes, hcomm x hx, ih _ (hkeep x hx)]

section
variable {s : State} {m : Memory} {draw : Nat}

theorem seedEffect_commutes (h : s.AgreesBelowLen m draw) (hL : s.LEN ≠ 0#64) :
    CommutesAt State.seedEffect s m draw :=
  congrArg (fun S => (s.withS S).withMemory m draw) (seedState_congr (toNat_pos_of_ne_zero hL) h)

theorem initEffect_commutes (h : s.AgreesBelowLen m draw) (hL : s.LEN ≠ 0#64) :
    CommutesAt State.initEffect s m draw :=
  congrArg (fun S => (((s.withS S).withBLKIDX 0#64).withSEQ 0#5 0#4).withMemory m draw)
    (initializeState_congr s.params.caEdge (toNat_pos_of_ne_zero hL) h)

theorem padEffect_commutes (h : s.AgreesBelowLen m draw) : CommutesAt State.padEffect s m draw :=
  congrArg (fun B => ((s.withBLK B).withBLKIDX (s.BLKIDX + 1#64)).withMemory m draw)
    (padBlock_congr h s.BLKIDX.toNat)

theorem absorbEffect_commutes : CommutesAt State.absorbEffect s m draw := (rfl)

theorem wstepEffect_commutes : CommutesAt State.wstepEffect s m draw := by
  have hidx : (s.withMemory m draw).IDX = s.IDX := rfl
  unfold CommutesAt
  simp only [State.wstepEffect, hidx]
  split
  · rfl
  · rfl

theorem roundLoop_commutes (n : Nat) : CommutesAt (State.roundLoop n) s m draw := by
  induction n generalizing s with
  | zero => rfl
  | succ n ih =>
    have hstep : (s.withMemory m draw).wstepEffect = s.wstepEffect.withMemory m draw := wstepEffect_commutes
    have hidx : (s.wstepEffect.withMemory m draw).IDX = s.wstepEffect.IDX := rfl
    unfold CommutesAt
    simp only [State.roundLoop, hstep, hidx]
    split
    · rfl
    · exact ih

theorem permuteEffect_commutes : CommutesAt State.permuteEffect s m draw := by
  have hseq : (s.withMemory m draw).withSEQ 0#5 0#4 = (s.withSEQ 0#5 0#4).withMemory m draw := rfl
  unfold CommutesAt State.permuteEffect
  rw [hseq]
  exact repeatTimes_commutes (f := State.wstepEffect) (g := fun s => s.withMemory m draw) (fun _ => True)
    (fun _ _ => trivial) (fun _ _ => wstepEffect_commutes) _ _ trivial

theorem hashBlock_commutes (h : s.AgreesBelowLen m draw) : CommutesAt State.hashBlock s m draw := by
  have hpad : (s.withMemory m draw).padEffect = s.padEffect.withMemory m draw := padEffect_commutes h
  have habsorb : (s.padEffect.withMemory m draw).absorbEffect = s.padEffect.absorbEffect.withMemory m draw :=
    absorbEffect_commutes
  unfold CommutesAt
  rw [State.hashBlock, State.hashBlock, hpad, habsorb]
  exact permuteEffect_commutes

theorem hashEffect_commutes (h : s.AgreesBelowLen m draw) (hL : s.LEN ≠ 0#64) :
    CommutesAt State.hashEffect s m draw := by
  have hinit : (s.withMemory m draw).initEffect = s.initEffect.withMemory m draw := initEffect_commutes h hL
  have hlen : (s.withMemory m draw).LEN = s.LEN := rfl
  have hloop := repeatTimes_commutes (g := fun s => s.withMemory m draw) (fun s => s.AgreesBelowLen m draw)
    (fun t ht => State.agreesBelowLen_of_same ht t.hashBlock_LEN t.hashBlock_readMsg)
    (fun _ => hashBlock_commutes) (nblk s.LEN.toNat) s.initEffect
    (State.agreesBelowLen_of_same h s.initEffect_LEN s.initEffect_readMsg)
  unfold CommutesAt
  rw [State.hashEffect, State.hashEffect, hinit, hlen, hloop]
  rfl

/-- A check that does not look at the message memory, before an effect that commutes where the check passes. -/
theorem guarded_commutes {fault : State → Option ErrCode} {effect : State → State}
    (hfault : fault (s.withMemory m draw) = fault s) (heffect : fault s = none → CommutesAt effect s m draw) :
    CommutesAt (fun s => s.guarded (fault s) effect) s m draw := by
  show (s.withMemory m draw).guarded (fault (s.withMemory m draw)) effect =
    (s.guarded (fault s) effect).withMemory m draw
  rw [hfault]
  cases hf : fault s with
  | none => exact heffect hf
  | some e => rfl

theorem effectOf_commutes (i : Instr) (h : s.AgreesBelowLen m draw) : CommutesAt (effectOf i) s m draw := by
  have nonempty : s.initFault = none → s.LEN ≠ 0#64 := fun hf => ((initFault_eq_none s).1 hf).1
  cases i with
  | seed => exact guarded_commutes rfl fun hf => seedEffect_commutes h (nonempty hf)
  | init => exact guarded_commutes rfl fun hf => initEffect_commutes h (nonempty hf)
  | padblk => exact guarded_commutes rfl fun _ => padEffect_commutes h
  | hash => exact guarded_commutes rfl fun hf => hashEffect_commutes h (nonempty hf)
  | absorb => exact absorbEffect_commutes
  | wstep => exact wstepEffect_commutes
  | round => exact roundLoop_commutes _
  | permute => exact permuteEffect_commutes
  | nop | clear | castep | rcgen | sbox => exact (rfl)

theorem accept_commutes {effect : State → State} (h : CommutesAt effect s.clearDone m draw) :
    ∃ t, accept s effect = .next t ∧ accept (s.withMemory m draw) effect = .next (t.withMemory m draw) := by
  by_cases he : s.ERR = .none
  · exact ⟨_, accept_of_none he effect, (accept_of_none (s := s.withMemory m draw) he effect).trans (congrArg _ h)⟩
  · exact ⟨s, accept_of_pending he effect, accept_of_pending (s := s.withMemory m draw) he effect⟩

end

/-- Settles O37: every command's effect commutes with the replacement, accepted or ignored. -/
theorem commandsReadOnlyTheMessage : Obligations.CommandsReadOnlyTheMessage := by
  intro i s m draw h
  have hagree : s.clearDone.AgreesBelowLen m draw := h
  cases i with
  | nop => exact ⟨s, rfl, rfl⟩
  | clear => exact ⟨s.clearRegisters, rfl, rfl⟩
  | _ =>
    simp only [exec_eq]
    exact accept_commutes (effectOf_commutes _ hagree)

end Sys2Proof.Machine

/-! PROOF. The layouts of `STATUS` and `SEQ` and the values after reset (10_state.md R29, R33, R41): settles O46 and
O48. -/

namespace Sys2Proof.Machine

/-- `STATUS` as a number (R33). -/
theorem State.statusWord_eq_ofNat (s : State) :
    s.statusWord = BitVec.ofNat 64 (s.ERR.code.toNat * 16 + s.DONE.toNat) := by
  unfold State.statusWord
  cases s.ERR <;> cases s.DONE <;> rfl

/-- `SEQ` as a number (R29). -/
theorem State.seqWord_eq_ofNat (s : State) : s.seqWord = BitVec.ofNat 64 (s.RND.toNat * 16 + s.IDX.toNat) := by
  have hidx := s.IDX.isLt
  have hrnd := s.RND.isLt
  apply BitVec.eq_of_toNat_eq
  simp only [State.seqWord, BitVec.toNat_append, BitVec.toNat_ofNat]
  rw [← Nat.shiftLeft_add_eq_or_of_lt hidx, ← Nat.shiftLeft_add_eq_or_of_lt hrnd]
  simp only [Nat.shiftLeft_eq]
  omega

/-- `STATUS`, bit by bit (R33). -/
theorem State.statusWord_getLsbD (s : State) (b : Nat) :
    s.statusWord.getLsbD b =
      if b = 0 then s.DONE else if 4 ≤ b ∧ b ≤ 7 then s.ERR.code.getLsbD (b - 4) else false := by
  simp only [State.statusWord, BitVec.getLsbD_append, BitVec.getLsbD_zero, BitVec.getLsbD_ofBool]
  by_cases h0 : b = 0
  · simp [h0]
  by_cases h3 : b < 4
  · simp [h0, show ¬ b < 1 by omega, show b - 1 < 3 by omega, show ¬ 4 ≤ b by omega]
  by_cases h7 : b < 8
  · simp [h0, show ¬ b < 1 by omega, show ¬ b - 1 < 3 by omega, show b - 1 - 3 = b - 4 by omega,
      show b - 4 < 4 by omega, show 4 ≤ b ∧ b ≤ 7 by omega]
  · simp [h0, show ¬ b < 1 by omega, show ¬ b - 1 < 3 by omega, show ¬ b - 1 - 3 < 4 by omega,
      show ¬ b ≤ 7 by omega]

/-- `SEQ`, bit by bit (R29). -/
theorem State.seqWord_getLsbD (s : State) (b : Nat) :
    s.seqWord.getLsbD b =
      if b ≤ 3 then s.IDX.getLsbD b else if 4 ≤ b ∧ b ≤ 8 then s.RND.getLsbD (b - 4) else false := by
  simp only [State.seqWord, BitVec.getLsbD_append, BitVec.getLsbD_zero]
  by_cases h3 : b ≤ 3
  · simp [h3, show b < 4 by omega]
  by_cases h8 : b ≤ 8
  · simp [h3, h8, show ¬ b < 4 by omega, show b - 4 < 5 by omega, show 4 ≤ b by omega]
  · simp [h3, h8, show ¬ b < 4 by omega, show ¬ b - 4 < 5 by omega]

/-- Settles O46: the two layouts, and one code per fault. -/
theorem statusAndSeqLayouts : Obligations.StatusAndSeqLayouts := by
  intro s b
  refine ⟨s.statusWord_getLsbD b, s.seqWord_getLsbD b, ?_⟩
  cases s.ERR <;> rfl

/-- A reset event leaves the registers of `State.resetWith` and the responses given so far (70_reset_and_hazards.md
R180). -/
theorem State.resetEngine_eq_resetWith (s : State) :
    s.resetEngine = { State.resetWith s.params (s.msgDraw + 1) s.host with responses := s.responses } := (rfl)

/-- Settles O48: both kinds of reset state are `State.resetWith`, whose fields are the values of R41. -/
theorem resetLeavesTheResetValues : Obligations.ResetLeavesTheResetValues := by
  refine ⟨fun t ht => ?_, fun s rest hh => ⟨_, step_reset hh, ?_, rfl, rfl⟩⟩
  · have hreset : ∃ p draw events responses, t = { State.resetWith p draw events with responses := responses } := by
      rcases ht with rfl | ⟨s, rest, hh, hstep⟩
      · exact ⟨_, _, _, _, rfl⟩
      · rw [step_reset hh] at hstep
        injection hstep with hstep
        exact ⟨_, _, _, _, hstep.symm.trans (State.resetEngine_eq_resetWith _)⟩
    obtain ⟨p, draw, events, responses, rfl⟩ := hreset
    exact ⟨fun k hk => Vector.getElem_replicate hk, fun j hj => Vector.getElem_replicate hj,
      rfl, rfl, rfl, rfl, rfl, rfl, rfl, rfl, fun a => rfl⟩
  · rw [State.resetEngine_msgDraw, State.withHost_msgDraw]
    omega

end Sys2Proof.Machine

/-! PROOF. The port: what a read returns and what a write stores, location by location (20_memory.md R51, R53 to R55),
and the two views of `S` (10_state.md R22): settles O32, O43 and O44. -/

namespace Sys2Proof.Machine

/-- A location stands at the offset of another exactly when they are the same (20_memory.md R53). -/
theorem Loc.eq_iff_at {M a : Nat} {l : Loc} (hl : l.At M a) (k : Loc) : l = k ↔ k.At M a :=
  ⟨fun h => h ▸ hl, Loc.At_inj hl⟩

theorem step_load {s : State} {a : Nat} {rest : List Event} {l : Loc} (hh : s.host = .read a :: rest)
    (hat : l.At s.params.msgBytes a) :
    step s = .next ((s.withHost rest).respond (.data (s.load l))) := by
  rw [step_event hh, perform_read, State.hostRead, State.withHost_params, locate_eq_ok.2 hat]
  rfl

theorem State.load_msg (s : State) (w : Nat) : s.load (.msg w) = le64 (fun k => s.readMsg (w + k.val)) := (rfl)

/-- Settles O43: the location at the offset is the one the clause names, and `load` says what it holds. -/
theorem portReadsReturnTheMap : Obligations.PortReadsReturnTheMap := by
  intro s a rest hh hm
  obtain ⟨l, hl⟩ := Loc.exists_at_of_mapped hm
  have load_of_at : ∀ k : Loc, k.At s.params.msgBytes a → s.load l = s.load k :=
    fun k hk => by rw [Loc.At_inj hl hk]
  refine ⟨s.load l, step_load hh hl, load_of_at .cmd, fun ha => ?_, load_of_at .len, load_of_at .blkidx, fun ha => ?_,
    load_of_at .rc, load_of_at .x, fun j k hj hk ha => ?_, fun m k hm hk ha => ?_, fun q k hk ha => ?_⟩
  · rw [load_of_at .status ha]
    exact s.statusWord_eq_ofNat
  · rw [load_of_at .seq ha]
    exact s.seqWord_eq_ofNat
  · rw [load_of_at (.blk ⟨j, hj⟩) ha]
    exact byteOf_lanes s.BLK j (by omega) k hk
  · rw [load_of_at (.sw ⟨m, hm⟩) ha]
    exact byteOf_lanes s.S m (by omega) k hk
  · have hwindow : (Loc.msg (8 * q)).At s.params.msgBytes a := by
      cases l <;> simp only [Loc.At] at hl ⊢ <;> omega
    rw [load_of_at _ hwindow, State.load_msg]
    exact byteOf_le64_nat (fun k => s.readMsg (8 * q + k.val)) k hk

/-- The fields a store at the port does not write, and those it writes whatever the location (R55), fix all but the
registers a host may write and the message memory. -/
theorem State.eq_of_unstored {s t : State} {rest : List Event} {answers : List Response} (hRC : t.RC = s.RC)
    (hDONE : t.DONE = false) (hERR : t.ERR = s.ERR) (hdraw : t.msgDraw = s.msgDraw) (hparams : t.params = s.params)
    (hhost : t.host = rest) (hresponses : t.responses = answers) :
    t = { s with S := t.S, BLK := t.BLK, LEN := t.LEN, BLKIDX := t.BLKIDX, RND := t.RND, IDX := t.IDX, X := t.X,
                 MSG := t.MSG, DONE := false, host := rest, responses := answers } := by
  rw [← hRC, ← hDONE, ← hERR, ← hdraw, ← hparams, ← hhost, ← hresponses]

section
variable {s : State} {l : Loc} {a : Nat}

/-- The block buffer after a store at the offset `a`, byte by byte. -/
theorem State.store_BLK_at (hat : l.At s.params.msgBytes a) (d : Word) (k : Nat) (hk : k < 64) :
    (s.store l d).BLK[k] = if 0x0040 + k / 8 * 8 = a then byteOf d (k % 8) else s.BLK[k] := by
  have hword : l = .blk ⟨k / 8, by omega⟩ ↔ 0x0040 + k / 8 * 8 = a :=
    (Loc.eq_iff_at hat _).trans (by simp only [Loc.At]; omega)
  rw [State.store_BLK]
  simp only [hword]

/-- The working state after a store at the offset `a`, byte by byte. -/
theorem State.store_S_at (hat : l.At s.params.msgBytes a) (d : Word) (k : Nat) (hk : k < 128) :
    (s.store l d).S[k] = if 0x0080 + k / 8 * 8 = a then byteOf d (k % 8) else s.S[k] := by
  have hword : l = .sw ⟨k / 8, by omega⟩ ↔ 0x0080 + k / 8 * 8 = a :=
    (Loc.eq_iff_at hat _).trans (by simp only [Loc.At]; omega)
  rw [State.store_S]
  simp only [hword]

theorem State.store_readMsg_of_ne (hl : ∀ w, l ≠ .msg w) (d : Word) (x : Nat) :
    (s.store l d).readMsg x = s.readMsg x := by
  rw [State.readMsg, State.readMsg, State.store_MSG s l d hl, State.store_msgDraw]

/-- The message memory after a store at the offset `a`, byte by byte: below 0x1000 there is no word of the window. -/
theorem State.store_readMsg_at (hat : l.At s.params.msgBytes a) (d : Word) (x : Nat) :
    (s.store l d).readMsg x = if 0x1000 + x / 8 * 8 = a then byteOf d (x % 8) else s.readMsg x := by
  cases l with
  | msg w =>
    obtain ⟨rfl, hw, -⟩ := hat
    rw [State.store_readMsg s _ d w x rfl]
    by_cases hx : w ≤ x ∧ x < w + 8
    · rw [if_pos hx, if_pos (by omega), show x - w = x % 8 by omega]
    · rw [if_neg hx, if_neg (by omega)]
  | _ =>
    have hlow : 0x1000 + x / 8 * 8 ≠ a := by
      simp only [Loc.At] at hat
      omega
    rw [if_neg hlow]
    exact State.store_readMsg_of_ne (fun w hw => by cases hw) d x

end

/-- Settles O44: the location at the offset, and what a store there changes, field by field. -/
theorem portWritesStoreAndClearDone : Obligations.PortWritesStoreAndClearDone := by
  intro s a d rest hh hm hcmd hstatus hrc
  obtain ⟨l, hat, hro, hl⟩ := Loc.exists_writable_of_mapped hm hcmd hstatus hrc
  have at_iff := Loc.eq_iff_at hat
  refine ⟨_, step_store hh hat hro hl, ?_, ?_, ?_, ?_, ?_, ?_, fun k hk => ?_, fun k hk => ?_, fun x => ?_⟩
  · apply State.eq_of_unstored <;> simp
  · exact (State.store_LEN _ l d).trans (if_congr (at_iff .len) rfl rfl)
  · exact (State.store_BLKIDX _ l d).trans (if_congr (at_iff .blkidx) rfl rfl)
  · exact (State.store_RND _ l d).trans (if_congr (at_iff .seq) rfl rfl)
  · exact (State.store_IDX _ l d).trans (if_congr (at_iff .seq) rfl rfl)
  · exact (State.store_X _ l d).trans (if_congr (at_iff .x) rfl rfl)
  · exact State.store_BLK_at (s := s.withHost rest) hat d k hk
  · exact State.store_S_at (s := s.withHost rest) hat d k hk
  · exact State.store_readMsg_at (s := s.withHost rest) hat d x

/-- Settles O32: the word view and the lanes of the port are the same eight bytes. -/
theorem wordViewIsOneStorage : Obligations.WordViewIsOneStorage := by
  refine ⟨fun o S m v => ⟨fun n => wordAt_setWordAt o S m n v, fun k hk hne => ?_, fun k hk => ?_⟩, fun s m => ?_⟩
  · rw [setWordAt_getElem, if_neg hne]
  · rw [setWordAt_getElem, if_pos (by omega), show (8 * m.val + k) % 8 = k by omega]
    cases o <;> rfl
  · cases s.params.byteOrder with
    | le => rfl
    | be =>
      show lanes s.S m.val (by omega) = bswap64 (wordAt .be s.S m)
      rw [wordAt_eq_lanes, bswap64_bswap64]

end Sys2Proof.Machine

/-! PROOF. A write to `CMD` that decodes (20_memory.md R61, 30_encoding.md R75): settles O5. -/

namespace Sys2Proof.Machine

theorem commandWrite_of_decode {d : Word} {i : Instr} (h : decode d = .ok i) (s : State) :
    commandWrite d s = exec i s := by
  simp only [commandWrite, h]

/-- Settles O5: the write is the command's `exec`, and the answer `ok` follows it. -/
theorem stepRunsDecodedCommand : Obligations.StepRunsDecodedCommand := by
  intro s d rest i hh hdec
  obtain ⟨t, ht⟩ := commandWrite_next d (s.withHost rest)
  have hexec : exec i (s.withHost rest) = .next t := (commandWrite_of_decode hdec _).symm.trans ht
  exact ⟨t, hexec, (step_commandWrite hh).trans (thenNext_next.2 ⟨t, ht, rfl⟩)⟩

end Sys2Proof.Machine

/-! PROOF. Bus errors (20_memory.md R52, R54, R57, R58): an offset is mapped exactly when a location stands there, and a
write fails exactly at the others and at the two read-only locations. Settles O42. -/

namespace Sys2Proof.Machine

/-- The two descriptions of the address map agree (R53). -/
theorem mapped_iff_exists_at {M a : Nat} : Claims.mapped M a ↔ ∃ l : Loc, l.At M a := by
  refine ⟨Loc.exists_at_of_mapped, fun ⟨l, hl⟩ => ?_⟩
  cases l with
  | cmd => exact .inl ⟨0, by decide, hl⟩
  | status => exact .inl ⟨1, by decide, hl⟩
  | len => exact .inl ⟨2, by decide, hl⟩
  | blkidx => exact .inl ⟨3, by decide, hl⟩
  | seq => exact .inl ⟨4, by decide, hl⟩
  | rc => exact .inl ⟨5, by decide, hl⟩
  | x => exact .inl ⟨6, by decide, hl⟩
  | blk j => exact .inr (.inl ⟨j, j.isLt, hl⟩)
  | sw m => exact .inr (.inr (.inl ⟨m, m.isLt, hl⟩))
  | msg w =>
    obtain ⟨ha, h8, hlt⟩ := hl
    exact .inr (.inr (.inr ⟨w / 8, hlt, by omega⟩))

theorem mod_eight_of_mapped {M a : Nat} (h : Claims.mapped M a) : a % 8 = 0 := by
  rcases h with ⟨q, -, rfl⟩ | ⟨j, -, rfl⟩ | ⟨m, -, rfl⟩ | ⟨q, -, rfl⟩ <;> omega

theorem locate_of_not_mapped {M a : Nat} (h : ¬ Claims.mapped M a) : ∃ c, locate M a = .error c := by
  cases hl : locate M a with
  | error c => exact ⟨c, rfl⟩
  | ok l => exact absurd (mapped_iff_exists_at.2 ⟨l, locate_eq_ok.1 hl⟩) h

/-- The read-only locations stand at the offsets of `STATUS` and `RC` (R54). -/
theorem Loc.readOnly_iff_at {M a : Nat} {l : Loc} (hl : l.At M a) : l.readOnly = true ↔ a = 0x0008 ∨ a = 0x0028 := by
  have readOnly_cases : l.readOnly = true ↔ l = .status ∨ l = .rc := by cases l <;> simp [Loc.readOnly]
  exact readOnly_cases.trans (or_congr (Loc.eq_iff_at hl .status) (Loc.eq_iff_at hl .rc))

/-- A write has no target exactly where R58 says. -/
theorem writeTarget_of_forbidden {M a : Nat} (h : ¬ Claims.mapped M a ∨ a = 0x0008 ∨ a = 0x0028) :
    ∃ c, writeTarget M a = .error c := by
  cases hw : writeTarget M a with
  | error c => exact ⟨c, rfl⟩
  | ok l =>
    obtain ⟨hat, hro⟩ := writeTarget_eq_ok.1 hw
    rcases h with hm | hro'
    · exact absurd (mapped_iff_exists_at.2 ⟨l, hat⟩) hm
    · rw [(Loc.readOnly_iff_at hat).2 hro'] at hro
      cases hro

theorem State.hostRead_of_at {s : State} {a : Nat} {l : Loc} (hat : l.At s.params.msgBytes a) :
    s.hostRead a = .data (s.load l) := by
  simp only [State.hostRead, locate_eq_ok.2 hat]

theorem State.hostRead_of_not_mapped {s : State} {a : Nat} (h : ¬ Claims.mapped s.params.msgBytes a) :
    s.hostRead a = .busError := by
  obtain ⟨c, hc⟩ := locate_of_not_mapped h
  simp only [State.hostRead, hc]

theorem State.withHost_hostRead (s : State) (rest : List Event) (a : Nat) :
    (s.withHost rest).hostRead a = s.hostRead a := rfl

/-- A read answers and changes nothing else (R55). -/
theorem step_read {s : State} {a : Nat} {rest : List Event} (hh : s.host = .read a :: rest) :
    step s = .next ((s.withHost rest).respond (s.hostRead a)) := by
  rw [step_event hh, perform_read, State.withHost_hostRead]

theorem step_write_forbidden {s : State} {a : Nat} {d : Word} {rest : List Event} (hh : s.host = .write a d :: rest)
    (h : ¬ Claims.mapped s.params.msgBytes a ∨ a = 0x0008 ∨ a = 0x0028) :
    step s = .next ((s.withHost rest).respond .busError) := by
  obtain ⟨c, hc⟩ := writeTarget_of_forbidden h
  rw [step_event hh]
  exact hostWrite_busError hc

/-- A write anywhere else is answered `ok`, at `CMD` whatever the command does (R58, 30_encoding.md R75). -/
theorem step_write_ok {s : State} {a : Nat} {d : Word} {rest : List Event} (hh : s.host = .write a d :: rest)
    (hm : Claims.mapped s.params.msgBytes a) (hstatus : a ≠ 0x0008) (hrc : a ≠ 0x0028) :
    ∃ t, step s = .next t ∧ t.responses = s.responses ++ [.ok] := by
  by_cases hcmd : a = 0x0000
  · subst hcmd
    obtain ⟨t, ht⟩ := commandWrite_next d (s.withHost rest)
    refine ⟨_, (step_commandWrite hh).trans (thenNext_next.2 ⟨t, ht, rfl⟩), ?_⟩
    rw [State.respond_responses, (commandWrite_sameButRegisters ht).responses, State.withHost_responses]
  · obtain ⟨l, hat, hro, hl⟩ := Loc.exists_writable_of_mapped hm hcmd hstatus hrc
    exact ⟨_, step_store hh hat hro hl, by simp⟩

/-- Settles O42: a read by whether a location stands at the offset, a write by `step_write_forbidden` and
`step_write_ok`. -/
theorem busErrorsAreExactlyRuleR58 : Obligations.BusErrorsAreExactlyRuleR58 := by
  intro s a d rest
  refine ⟨fun hh => ⟨fun hm => ?_, fun hm => ?_⟩, fun hh => ⟨step_write_forbidden hh, step_write_ok hh⟩,
    fun h8 hm => h8 (mod_eight_of_mapped hm)⟩
  · have hread := step_read hh
    rwa [State.hostRead_of_not_mapped hm] at hread
  · obtain ⟨l, hat⟩ := mapped_iff_exists_at.1 hm
    exact ⟨s.load l, step_load hh hat⟩

end Sys2Proof.Machine

/-! SUPPORT. A run of several steps, taken apart at its start and in the middle. -/

namespace Sys2Proof.Machine

/-- A run takes its steps one after the other. -/
theorem run_succ {M : Host.Core} {s t : M.State} (h : M.step s = .next t) (k : Nat) : M.run (k + 1) s = M.run k t := by
  rw [Host.Core.run, h]

/-- A run goes on where its first steps end. -/
theorem run_add {M : Host.Core} {m : Nat} {s t : M.State} (h : M.run m s = .next t) (k : Nat) :
    M.run (m + k) s = M.run k t := by
  induction m generalizing s with
  | zero =>
    rw [Host.Core.run] at h
    injection h with h
    rw [h, Nat.zero_add]
  | succ m ih =>
    cases hs : M.step s with
    | next u =>
      rw [run_succ hs] at h
      rw [Nat.succ_add, run_succ hs, ih h]
    | fault r => simp [Host.Core.run, hs] at h
    | refused r => simp [Host.Core.run, hs] at h

end Sys2Proof.Machine

/-! PROOF. A read after a write (20_memory.md R54, R59): what `load` returns after `store`, at the same location and at
another. Settles O45. -/

namespace Sys2Proof.Machine

/-- A location stands at one offset. -/
theorem Loc.At_addr_inj {M a b : Nat} {l : Loc} (ha : l.At M a) (hb : l.At M b) : a = b := by
  cases l <;> simp only [Loc.At] at ha hb <;> omega

/-- Only `STATUS` shows `DONE` (10_state.md R33). -/
theorem State.clearDone_load (s : State) {k : Loc} (hk : k ≠ .status) : s.clearDone.load k = s.load k := by
  cases k with
  | status => exact absurd rfl hk
  | _ => rfl

/-- What `SEQ` reads after a write of it: the nine bits it holds (10_state.md R29). -/
theorem State.seqWord_writeSeq (s : State) (d : Word) : (s.writeSeq d).seqWord = d &&& 0x1FF#64 := by
  have low_nine_bits : d.toNat &&& 0x1FF = d.toNat % 2 ^ 9 := Nat.and_two_pow_sub_one_eq_mod d.toNat 9
  apply BitVec.eq_of_toNat_eq
  simp only [State.seqWord_eq_ofNat, State.writeSeq, State.withSEQ_RND, State.withSEQ_IDX, BitVec.extractLsb'_toNat,
    BitVec.toNat_ofNat, BitVec.toNat_and, Nat.shiftRight_eq_div_pow, Nat.reducePow, Nat.reduceMod, low_nine_bits]
  omega

theorem State.load_store_same (s : State) {l : Loc} (hro : l.readOnly = false) (hcmd : l ≠ .cmd) (d : Word) :
    (s.store l d).load l = if l = .seq then d &&& 0x1FF#64 else d := by
  cases l with
  | cmd => exact absurd rfl hcmd
  | status => cases hro
  | rc => cases hro
  | seq => exact s.seqWord_writeSeq d
  | blk j => exact (lanes_setLanes s.BLK j j d (by omega)).trans (if_pos rfl)
  | sw m => exact (lanes_setLanes s.S m m d (by omega)).trans (if_pos rfl)
  | msg w =>
    refine word_ext fun k hk => ?_
    rw [State.load_msg, byteOf_le64_nat _ k hk, State.store_readMsg s _ d w _ rfl, if_pos (by omega)]
    simp
  | _ => rfl

/-- A location at another offset reads as before a store. -/
theorem State.load_store_of_ne {s : State} {l k : Loc} {a b : Nat} (hl : l.At s.params.msgBytes a)
    (hk : k.At s.params.msgBytes b) (hne : b ≠ a) (d : Word) : (s.store l d).load k = s.load k := by
  have other : l ≠ k := fun h => hne (Loc.At_addr_inj hk (h ▸ hl))
  cases k with
  | cmd => rfl
  | status => simp only [State.load, State.statusWord, State.store_DONE, State.store_ERR]
  | len => exact (State.store_LEN s l d).trans (if_neg other)
  | blkidx => exact (State.store_BLKIDX s l d).trans (if_neg other)
  | seq => simp only [State.load, State.seqWord, State.store_RND, State.store_IDX, if_neg other]
  | rc => exact State.store_RC s l d
  | x => exact (State.store_X s l d).trans (if_neg other)
  | blk j =>
    refine word_ext fun i hi => ?_
    simp only [Loc.At] at hk
    simp only [State.load, byteOf_lanes _ _ _ i hi]
    rw [State.store_BLK_at hl, if_neg (by omega)]
  | sw m =>
    refine word_ext fun i hi => ?_
    simp only [Loc.At] at hk
    simp only [State.load, byteOf_lanes _ _ _ i hi]
    rw [State.store_S_at hl, if_neg (by omega)]
  | msg w =>
    obtain ⟨hb, hw, -⟩ := hk
    rw [State.load_msg, State.load_msg]
    congr 1
    funext i
    rw [State.store_readMsg_at hl, if_neg (by omega)]

section
variable {s : State} {l : Loc} {a : Nat}

/-- A read at the offset of a store answers the datum, of `SEQ` its nine bits. -/
theorem State.hostRead_store_same (hl : l.At s.params.msgBytes a) (hro : l.readOnly = false) (hcmd : l ≠ .cmd)
    (d : Word) : (s.store l d).clearDone.hostRead a = .data (if a = 0x0020 then d &&& 0x1FF#64 else d) := by
  have hstatus : l ≠ .status := fun h => by subst h; cases hro
  have hl' : l.At (s.store l d).clearDone.params.msgBytes a := by simpa using hl
  rw [State.hostRead_of_at hl', State.clearDone_load _ hstatus, State.load_store_same s hro hcmd]
  exact congrArg Response.data (if_congr (Loc.eq_iff_at hl .seq) rfl rfl)

/-- A read at another offset, but `STATUS`, answers after a store what it answered before; a bus error it stays. -/
theorem State.hostRead_store_of_ne (hl : l.At s.params.msgBytes a) {b : Nat} (hstatus : b ≠ 0x0008) (hne : b ≠ a)
    (d : Word) : (s.store l d).clearDone.hostRead b = s.hostRead b := by
  by_cases hm : Claims.mapped s.params.msgBytes b
  · obtain ⟨k, hk⟩ := mapped_iff_exists_at.1 hm
    have hk_status : k ≠ .status := fun h => hstatus (by subst h; exact hk)
    have hk' : k.At (s.store l d).clearDone.params.msgBytes b := by simpa using hk
    rw [State.hostRead_of_at hk, State.hostRead_of_at hk', State.clearDone_load _ hk_status,
      State.load_store_of_ne hl hk hne]
  · have hm' : ¬ Claims.mapped (s.store l d).clearDone.params.msgBytes b := by simpa using hm
    rw [State.hostRead_of_not_mapped hm, State.hostRead_of_not_mapped hm']

end

theorem State.store_withHost (s : State) (es : List Event) (l : Loc) (d : Word) :
    (s.withHost es).store l d = (s.store l d).withHost es := by
  cases l <;> rfl

/-- A store and a read after it: the answers are `ok` and what the read finds in the state the store left. -/
theorem run_write_read {s : State} {a b : Nat} {d : Word} {rest : List Event} {l : Loc}
    (hh : s.host = .write a d :: .read b :: rest) (hat : l.At s.params.msgBytes a) (hro : l.readOnly = false)
    (hcmd : l ≠ .cmd) :
    ∃ t : State, Host.Core.run Sys2Proof.core 2 s = .next t ∧
      t.responses = s.responses ++ [.ok, (s.store l d).clearDone.hostRead b] := by
  have hwrite := step_store hh hat hro hcmd
  rw [State.store_withHost] at hwrite
  have hread := step_read (s := ((s.store l d).withHost (.read b :: rest)).clearDone.respond .ok) rfl
  refine ⟨_, (run_succ hwrite 1).trans (run_succ hread 0), ?_⟩
  show (s.store l d).responses ++ [.ok] ++ [(s.store l d).clearDone.hostRead b] = _
  rw [State.store_responses, List.append_assoc, List.singleton_append]

/-- Settles O45: the datum comes back by `hostRead_store_same`, the other locations by `hostRead_store_of_ne`. -/
theorem readAfterWriteReturnsTheDatum : Obligations.ReadAfterWriteReturnsTheDatum := by
  intro s a b d rest hh hm hcmd hstatus hrc hb
  obtain ⟨l, hat, hro, hl⟩ := Loc.exists_writable_of_mapped hm hcmd hstatus hrc
  obtain ⟨t, hrun, hresp⟩ := run_write_read hh hat hro hl
  refine ⟨t, hrun, ?_⟩
  rw [hresp]
  refine ⟨fun hba hseq => ?_, fun hba hseq => ?_, fun hne => ?_⟩
  · rw [hba, State.hostRead_store_same hat hro hl, if_neg hseq]
  · rw [hba, State.hostRead_store_same hat hro hl, if_pos hseq]
  · rw [State.hostRead_store_of_ne hat hb hne]

end Sys2Proof.Machine

/-! PROOF. The `msg` pseudo-statement (20_memory.md R52, 30_encoding.md R78): word by word the window takes the message,
then `LEN` its length. Settles O54. -/

namespace Sys2Proof.Machine

open Sys2Proof.Claims

/-- The writes of the first `n` words of a message (R78). -/
def messageWrites (bs : List Byte) (n : Nat) : List Event :=
  (List.range n).map (fun q => .write (ScriptLoc.msg (8 * q)).offset (wordOfBytes bs (8 * q)))

theorem messageWrites_succ (bs : List Byte) (n : Nat) :
    messageWrites bs (n + 1) = messageWrites bs n ++ [.write (0x1000 + 8 * n) (wordOfBytes bs (8 * n))] := by
  rw [messageWrites, List.range_succ, List.map_append]
  rfl

theorem messageWrites_length (bs : List Byte) (n : Nat) : (messageWrites bs n).length = n := by
  simp [messageWrites]

theorem Stmt.msg_events (bs : List Byte) :
    (Stmt.msg bs).events =
      messageWrites bs ((bs.length + 7) / 8) ++ [.write 0x0010 (BitVec.ofNat 64 bs.length)] := rfl

theorem byteOf_wordOfBytes (bs : List Byte) (i : Nat) {k : Nat} (hk : k < 8) :
    byteOf (wordOfBytes bs i) k = bytesOf bs (i + k) :=
  byteOf_le64_nat _ k hk

/-- The state after `n` writes were answered `ok` of which none wrote a register: the message memory is `m`, `DONE` is
`done` and the events `rest` are left. -/
def State.afterWrites (s : State) (n : Nat) (m : Memory) (done : Bool) (rest : List Event) : State :=
  { s with MSG := m, DONE := done, host := rest, responses := s.responses ++ List.replicate n .ok }

theorem State.afterWrites_host (s : State) (n : Nat) (m : Memory) (done : Bool) (rest : List Event) :
    (s.afterWrites n m done rest).host = rest := rfl

/-- One more word of the window (R51, R55). -/
theorem step_afterWrites {s : State} {n w : Nat} {m : Memory} {done : Bool} {d : Word} {rest : List Event}
    (h8 : w % 8 = 0) (hw : w / 8 < s.params.msgBytes / 8) :
    step (s.afterWrites n m done (.write (0x1000 + w) d :: rest)) =
      .next (s.afterWrites (n + 1) (m.writeBytes w (laneBytes d)) false rest) := by
  rw [step_store (l := .msg w) (s.afterWrites_host ..) ⟨rfl, h8, hw⟩ rfl nofun, State.afterWrites, State.afterWrites,
    List.replicate_succ', ← List.append_assoc]
  rfl

/-- After the first `n` words the window reads as the message (with zero bytes past its end) below `8 * n`, and as before
from there on. -/
theorem run_messageWrites {s : State} {bs : List Byte} {n : Nat} (hn : n ≤ s.params.msgBytes / 8) {rest : List Event}
    (hh : s.host = messageWrites bs n ++ rest) :
    ∃ m done, Host.Core.run Sys2Proof.core n s = .next (s.afterWrites n m done rest) ∧
      ∀ x, (s.withMSG m).readMsg x = if x < 8 * n then bytesOf bs x else s.readMsg x := by
  induction n generalizing rest with
  | zero =>
    refine ⟨s.MSG, s.DONE, ?_, fun x => (if_neg (by omega)).symm⟩
    rw [State.afterWrites, List.replicate_zero, List.append_nil, show rest = s.host from hh.symm]
    rfl
  | succ n ih =>
    rw [messageWrites_succ, List.append_assoc] at hh
    obtain ⟨m, done, hrun, hread⟩ := ih (by omega) hh
    refine ⟨_, _, (run_add hrun 1).trans (run_succ (step_afterWrites (by omega) (by omega)) 0), fun x => ?_⟩
    have word_read := readMsg_withLaneBytes (s.withMSG m) (8 * n) (wordOfBytes bs (8 * n)) x
    refine word_read.trans ?_
    by_cases hx : 8 * n ≤ x ∧ x < 8 * n + 8
    · rw [if_pos hx, if_pos (by omega), byteOf_wordOfBytes bs _ (by omega), Nat.add_sub_cancel' hx.1]
    · rw [if_neg hx, hread x]
      exact if_congr (by omega) rfl rfl

/-- Settles O54: the words by `run_messageWrites`, then the write of `LEN`. -/
theorem msgScriptLoadsTheMessage : Obligations.MsgScriptLoadsTheMessage := by
  intro s bs rest hp hlen hh
  have h8 := Params.msgBytes_mod_eight hp
  rw [Stmt.msg_events, List.append_assoc] at hh
  obtain ⟨m, done, hrun, hread⟩ := run_messageWrites (by omega) hh
  have hlenWrite := step_store (l := .len)
    (s.afterWrites_host ((bs.length + 7) / 8) m done (.write 0x0010 (BitVec.ofNat 64 bs.length) :: rest)) rfl rfl nofun
  rw [Stmt.msg_events, List.length_append, messageWrites_length, List.length_singleton]
  refine ⟨_, (run_add hrun 1).trans (run_succ hlenWrite 0), rfl, fun x hx => ?_, fun x hx => ?_, ?_⟩
  · exact (hread x).trans (if_pos (by omega))
  · exact (hread x).trans (if_neg (by omega))
  · rw [List.replicate_succ', ← List.append_assoc]
    rfl

end Sys2Proof.Machine

/-! PROOF. The encoding (30_encoding.md R70 to R74): a value decodes to a command exactly when it is that command's
encoding, and to some command exactly when R73 calls it legal. Settles O2, O4, O1 and O3. -/

namespace Sys2Proof.Machine

theorem wellFormed_iff_immediate_le {i : Instr} : i.wellFormed = true ↔ i.immediate ≤ 255 := by
  cases i <;> simp [Instr.wellFormed, Instr.immediate]

/-- The opcode map finds a format Z command by its opcode (R72). -/
theorem formatZ_find_opcode {i : Instr} (hi : i.opcode ≠ opCastep.toNat) :
    formatZ.find? (fun row => row.1 == BitVec.ofNat 8 i.opcode) = some (BitVec.ofNat 8 i.opcode, i) := by
  cases i with
  | castep n => exact absurd rfl hi
  | _ => rfl

/-- The converse of `fields_of_decode`: the four fields decide the command. -/
theorem decode_of_fields {d : Word} {i : Instr} (hhi : fieldHi d = 0) (hrsv : fieldRsv d = 0)
    (hop : (fieldOp d).toNat = i.opcode) (himm : (fieldImm8 d).toNat = i.immediate) : decode d = .ok i := by
  unfold decode
  rw [if_neg (not_not.2 hhi), if_neg (not_not.2 hrsv)]
  by_cases hcastep : fieldOp d = opCastep
  · rw [if_pos hcastep, himm]
    cases i with
    | castep n => rfl
    | _ => simp [hcastep, opCastep, Instr.opcode] at hop
  · have hi : i.opcode ≠ opCastep.toNat := fun h => hcastep (BitVec.eq_of_toNat_eq (hop.trans h))
    have hfield : fieldOp d = BitVec.ofNat 8 i.opcode := by simp [← hop]
    have hzero : fieldImm8 d = 0 := BitVec.eq_of_toNat_eq <| himm.trans <| by
      cases i with
      | castep n => exact absurd rfl hi
      | _ => rfl
    rw [if_neg hcastep, hfield]
    simp only [formatZ_find_opcode hi, hzero, ne_eq, not_true_eq_false, if_false]

/-- The family of `Laws.EncodingFields` put together. -/
theorem encode_fields (i : Instr) : Laws.EncodingFields.Statement i := by
  cases i with
  | nop => exact Laws.EncodingFields.nop
  | clear => exact Laws.EncodingFields.clear
  | seed => exact Laws.EncodingFields.seed
  | castep n => exact Laws.EncodingFields.castep n
  | init => exact Laws.EncodingFields.init
  | padblk => exact Laws.EncodingFields.padblk
  | absorb => exact Laws.EncodingFields.absorb
  | rcgen => exact Laws.EncodingFields.rcgen
  | sbox => exact Laws.EncodingFields.sbox
  | wstep => exact Laws.EncodingFields.wstep
  | round => exact Laws.EncodingFields.round
  | permute => exact Laws.EncodingFields.permute
  | hash => exact Laws.EncodingFields.hash

theorem decode_encode {i : Instr} (hi : i.wellFormed = true) : decode (encode i) = .ok i := by
  obtain ⟨hhi, hrsv, hop, himm⟩ := encode_fields i hi
  exact decode_of_fields hhi hrsv hop himm

theorem wellFormed_of_decode {d : Word} {i : Instr} (h : decode d = .ok i) : i.wellFormed = true := by
  obtain ⟨-, -, -, himm⟩ := fields_of_decode h
  exact wellFormed_iff_immediate_le.2 (himm ▸ Nat.le_of_lt_succ (fieldImm8 d).isLt)

/-- `decode` said once: it inverts `encode` on the well-formed commands and decodes nothing else. -/
theorem decode_eq_ok_iff {d : Word} {i : Instr} : decode d = .ok i ↔ i.wellFormed = true ∧ encode i = d := by
  constructor
  · exact fun h => ⟨wellFormed_of_decode h, encode_of_decode h⟩
  · rintro ⟨hi, rfl⟩
    exact decode_encode hi

/-- Settles O2: the fields of the encoding are the command's, and the fields decide the command. -/
theorem decodeOfEncodeIsIdentity : Obligations.DecodeOfEncodeIsIdentity := fun _ => decode_encode

/-- Settles O4, by `decode_eq_ok_iff`. -/
theorem decodedCommandReencodes : Obligations.DecodedCommandReencodes := fun _ _ => decode_eq_ok_iff.1

/-- Settles O1: each word is the encoding of its command. -/
theorem commandWordsDecode : Obligations.CommandWordsDecode := by
  simp only [Obligations.CommandWordsDecode, decode_eq_ok_iff]
  decide

/-- Every `op` value but CASTEP's has its row in the opcode map (R72). -/
theorem exists_row_of_mem_opValues : ∀ op ∈ Claims.opValues, op ≠ opCastep →
    ∃ row ∈ formatZ, row.1 = op := by decide

/-- The `op` and `imm8` fields R73 allows are those some command has. -/
theorem exists_command_iff {op imm : Byte} :
    (∃ i : Instr, op.toNat = i.opcode ∧ imm.toNat = i.immediate) ↔
      op ∈ Claims.opValues ∧ (imm = 0#8 ∨ op = opCastep) := by
  constructor
  · rintro ⟨i, hop, himm⟩
    have hfield : op = BitVec.ofNat 8 i.opcode := by simp [← hop]
    rw [hfield]
    cases i with
    | castep n => exact ⟨show 0x11#8 ∈ Claims.opValues by decide, .inr rfl⟩
    | _ => exact ⟨by decide, .inl (BitVec.eq_of_toNat_eq himm)⟩
  · rintro ⟨hop, himm⟩
    by_cases hcastep : op = opCastep
    · exact ⟨.castep imm.toNat, by rw [hcastep]; rfl, rfl⟩
    · obtain ⟨row, hrow, rfl⟩ := exists_row_of_mem_opValues op hop hcastep
      obtain ⟨hopcode, himmediate⟩ := formatZ_opcode row hrow
      exact ⟨row.2, hopcode, by rw [himmediate, himm.resolve_right hcastep]; rfl⟩

theorem legal_iff_fields {d : Word} :
    Claims.legal d ↔ fieldHi d = 0#32 ∧ fieldRsv d = 0#16 ∧ fieldOp d ∈ Claims.opValues ∧
      (fieldImm8 d = 0#8 ∨ fieldOp d = opCastep) := Iff.rfl

/-- R73, by the fields. -/
theorem exists_decode_iff_legal {d : Word} : (∃ i, decode d = .ok i) ↔ Claims.legal d := by
  constructor
  · rintro ⟨i, h⟩
    obtain ⟨hhi, hrsv, hop, himm⟩ := fields_of_decode h
    obtain ⟨hmem, hoperand⟩ := exists_command_iff.1 ⟨i, hop, himm⟩
    exact ⟨hhi, hrsv, hmem, hoperand⟩
  · rintro ⟨hhi, hrsv, hmem, hoperand⟩
    obtain ⟨i, hop, himm⟩ := exists_command_iff.2 ⟨hmem, hoperand⟩
    exact ⟨i, decode_of_fields hhi hrsv hop himm⟩

theorem encode_castep_toNat {n : Nat} (hn : n ≤ 255) : (encode (.castep n)).toNat = 0x11000000 + n := by
  simp only [encode, Instr.opcode, Instr.immediate, BitVec.toNat_ofNat]
  omega

/-- The twelve fixed words are the encodings of the opcode map's rows, all of them well formed. -/
theorem mem_fixedWords_iff {d : Word} :
    d ∈ Claims.fixedWords ↔ ∃ row ∈ formatZ, row.2.wellFormed = true ∧ encode row.2 = d := by
  have hwords : Claims.fixedWords = formatZ.map (fun row => encode row.2) := by decide
  have hwf : ∀ row ∈ formatZ, row.2.wellFormed = true := by decide
  rw [hwords, List.mem_map]
  exact exists_congr fun row => and_congr_right fun hrow => (and_iff_right (hwf row hrow)).symm

/-- R73, as a list of words and an interval. -/
theorem exists_decode_iff_mem_words {d : Word} :
    (∃ i, decode d = .ok i) ↔ d ∈ Claims.fixedWords ∨ (0x11000000 ≤ d.toNat ∧ d.toNat ≤ 0x110000FF) := by
  constructor
  · rintro ⟨i, h⟩
    obtain ⟨hi, rfl⟩ := decode_eq_ok_iff.1 h
    cases i with
    | castep n =>
      have hn : n ≤ 255 := wellFormed_iff_immediate_le.1 hi
      rw [encode_castep_toNat hn]
      exact .inr (by omega)
    | _ => exact .inl (by decide)
  · rintro (h | ⟨hlo, hhi⟩)
    · obtain ⟨row, -, hrow⟩ := mem_fixedWords_iff.1 h
      exact ⟨row.2, decode_eq_ok_iff.2 hrow⟩
    · obtain ⟨n, hd⟩ := Nat.exists_eq_add_of_le hlo
      have hn : n ≤ 255 := by omega
      have henc : encode (.castep n) = d := BitVec.eq_of_toNat_eq ((encode_castep_toNat hn).trans hd.symm)
      exact ⟨.castep n, decode_eq_ok_iff.2 ⟨wellFormed_iff_immediate_le.2 hn, henc⟩⟩

/-- Settles O3, one lemma for each form of the rule. -/
theorem legalCommandsAreExactlyRuleR73 : Obligations.LegalCommandsAreExactlyRuleR73 :=
  fun _ => ⟨exists_decode_iff_legal, exists_decode_iff_mem_words⟩

end Sys2Proof.Machine

/-! PROOF. What a write to `CMD` does (30_encoding.md R74, R75; 60_exceptions.md R160 to R162): an illegal value raises
IllegalCommand, a command that faults changes nothing but `ERR`. Settles O6 and O7. -/

namespace Sys2Proof.Machine

theorem decode_eq_nop_iff {d : Word} : decode d = .ok .nop ↔ d = 0#64 :=
  decode_eq_ok_iff.trans ((and_iff_right rfl).trans eq_comm)

/-- A value that is not legal raises IllegalCommand when it is accepted. -/
theorem commandWrite_of_not_legal {d : Word} (h : ¬ Claims.legal d) (s : State) :
    commandWrite d s = accept s (fun s => s.raiseFault .illegalCommand) := by
  cases hd : decode d with
  | ok i => exact absurd (exists_decode_iff_legal.1 ⟨i, hd⟩) h
  | error c => simp only [commandWrite, hd]

theorem commandWrite_illegal {d : Word} {s : State} (h : ¬ Claims.legal d) (he : s.ERR = .none) :
    commandWrite d s = .next (s.raiseFault .illegalCommand) :=
  (commandWrite_of_not_legal h s).trans (accept_of_none he _)

/-- Every command but NOP begins with `DONE <- 0`, so it does not look at the `DONE` it finds (R75). -/
theorem exec_clearDone {i : Instr} (hi : i ≠ .nop) {s : State} (he : s.ERR = .none) :
    exec i s.clearDone = exec i s := by
  cases i with
  | nop => exact absurd rfl hi
  | clear => rfl
  | _ =>
    simp only [exec_eq]
    exact (accept_of_none (s := s.clearDone) he _).trans (accept_of_none he _).symm

/-- A guarded effect that keeps `ERR` keeps it, unless the guard faults. -/
theorem guarded_ERR_or_fault {s : State} {effect : State → State} (f : Option ErrCode)
    (h : (effect s).ERR = s.ERR) :
    (s.guarded f effect).ERR = s.ERR ∨ ∃ e, s.guarded f effect = s.raiseFault e := by
  rcases guarded_cases s f effect with ⟨e, -, hg⟩ | ⟨-, hg⟩
  · exact .inr ⟨e, hg⟩
  · exact .inl (by rw [hg, h])

/-- A command's effect leaves no fault pending where none was, or is the fault alone (60_exceptions.md R161). -/
theorem effectOf_ERR_or_fault (i : Instr) {s : State} (he : s.ERR = .none) :
    (effectOf i s).ERR = .none ∨ ∃ e, effectOf i s = s.raiseFault e := by
  rw [← he]
  cases i with
  | seed => exact guarded_ERR_or_fault _ (by simp)
  | init => exact guarded_ERR_or_fault _ (by simp)
  | padblk => exact guarded_ERR_or_fault _ (by simp)
  | hash => exact guarded_ERR_or_fault _ (by simp)
  | _ => exact .inl (by simp [effectOf, he])

/-- Faults are precise: a command that leaves a new fault pending did nothing else (R161). -/
theorem exec_fault {i : Instr} {s t : State} (h : exec i s = .next t) (he : s.ERR = .none) (ht : t.ERR ≠ .none) :
    t = s.raiseFault t.ERR := by
  rcases exec_next h with ⟨-, rfl⟩ | ⟨-, rfl⟩ | ⟨-, -, hpending, -⟩ | ⟨-, -, -, rfl⟩
  · exact absurd he ht
  · exact absurd rfl ht
  · exact absurd he hpending
  · rcases effectOf_ERR_or_fault i (s := s.clearDone) he with hnone | ⟨e, hfault⟩
    · exact absurd hnone ht
    · rw [hfault]
      rfl

/-- A legal value other than 0, with no fault pending: `DONE <- 0`, then the command its `op` field selects (R75). -/
theorem commandWrite_legal {d : Word} {s t : State} (h : commandWrite d s = .next t) (hlegal : Claims.legal d)
    (hd : d ≠ 0#64) (he : s.ERR = .none) :
    (∃ i, decode d = .ok i ∧ i.opcode = (fieldOp d).toNat ∧ exec i s.clearDone = .next t) ∧
      (t.ERR ≠ .none → t = s.raiseFault t.ERR) := by
  obtain ⟨i, hdec⟩ := exists_decode_iff_legal.2 hlegal
  obtain ⟨-, -, hop, -⟩ := fields_of_decode hdec
  have hnop : i ≠ .nop := by
    rintro rfl
    exact hd (decode_eq_nop_iff.1 hdec)
  rw [commandWrite_of_decode hdec] at h
  exact ⟨⟨i, hdec, hop.symm, (exec_clearDone hnop he).trans h⟩, exec_fault h he⟩

/-- Settles O6: the lines of R75, each by its lemma about `commandWrite`. -/
theorem commandWriteFollowsRuleR75 : Obligations.CommandWriteFollowsRuleR75 := by
  intro s d rest hh
  obtain ⟨t, ht⟩ := commandWrite_next d (s.withHost rest)
  refine ⟨t, (step_commandWrite hh).trans (thenNext_next.2 ⟨t, ht, rfl⟩), fun _ hd => ?_, fun he hd => ?_,
    fun _ hd => ?_, fun he _ hillegal => ?_, fun he hd hlegal => commandWrite_legal ht hlegal hd he⟩
  · have hclear : decode d = .ok .clear := decode_eq_ok_iff.2 ⟨rfl, hd.symm⟩
    exact (commandWrite_of_decode hclear _).symm.trans ht
  · rcases commandWrite_of_pending (s := s.withHost rest) he ht with hsame | ⟨hclear, -⟩
    · exact hsame
    · exact absurd hclear hd
  · rw [commandWrite_of_decode (decode_eq_nop_iff.2 hd)] at ht
    injection ht with ht
    exact ht.symm
  · rw [commandWrite_illegal (s := s.withHost rest) hillegal he] at ht
    injection ht with ht
    exact ht.symm

theorem decodeTableWord_isNone_iff {nbits w : Nat} :
    (decodeTableWord nbits w).isNone = true ↔ ¬ Claims.legal (tableDatum nbits w) := by
  rw [← exists_decode_iff_legal, decodeTableWord]
  cases decode (tableDatum nbits w) <;> simp

/-- A value with nothing but an `op` field is legal exactly when the `op` value is assigned (R73). -/
theorem legal_iff_op_of_toNat {d : Word} {v : Nat} (hd : d.toNat = v * 2 ^ 24) (hv : v < 256) :
    Claims.legal d ↔ BitVec.ofNat 8 v ∈ Claims.opValues := by
  have hsum := toNat_eq_fields d
  have hhi : fieldHi d = 0#32 := by bv_omega
  have hop : fieldOp d = BitVec.ofNat 8 v := by bv_omega
  have hrsv : fieldRsv d = 0#16 := by bv_omega
  have himm : fieldImm8 d = 0#8 := by bv_omega
  rw [legal_iff_fields, hhi, hop, hrsv, himm]
  simp

/-- Of the 256 `op` values 243 are unassigned (R74). -/
theorem length_unassigned_ops :
    ((List.range 256).filter (fun v => (decodeTableWord 32 (v * 2 ^ 24)).isNone)).length = 243 := by
  have hunassigned : ∀ v ∈ List.range 256,
      (decodeTableWord 32 (v * 2 ^ 24)).isNone = decide (BitVec.ofNat 8 v ∉ Claims.opValues) := fun v hmem => by
    have hv : v < 256 := List.mem_range.1 hmem
    have hd : (tableDatum 32 (v * 2 ^ 24)).toNat = v * 2 ^ 24 := by
      rw [tableDatum, BitVec.toNat_ofNat]
      omega
    rw [Bool.eq_iff_iff, decodeTableWord_isNone_iff, legal_iff_op_of_toNat hd hv, decide_eq_true_iff]
  rw [List.filter_congr hunassigned]
  decide +kernel

/-- The ways R74 lists in which a value is illegal are all failures of R73. -/
theorem not_legal_of_field {d : Word}
    (h : ¬ Claims.legal d ∨ fieldOp d ∉ Claims.opValues ∨ fieldRsv d ≠ 0#16 ∨ fieldHi d ≠ 0#32 ∨
      (fieldImm8 d ≠ 0#8 ∧ fieldOp d ≠ 0x11#8)) : ¬ Claims.legal d := by
  rintro ⟨hhi, hrsv, hop, himm⟩
  rcases h with h | h | h | h | ⟨himm', hop'⟩
  · exact h ⟨hhi, hrsv, hop, himm⟩
  · exact h hop
  · exact h hrsv
  · exact h hhi
  · exact himm.elim himm' hop'

/-- Settles O7: the illegal write by `commandWrite_illegal`, the count, and NOP's word by `decode_eq_nop_iff`. -/
theorem illegalValuesRaiseIllegalCommand : Obligations.IllegalValuesRaiseIllegalCommand := by
  refine ⟨fun s d rest hh he hfield => ?_, length_unassigned_ops, fun _ => decode_eq_nop_iff⟩
  rw [step_commandWrite hh, commandWrite_illegal (s := s.withHost rest) (not_legal_of_field hfield) he]
  rfl

end Sys2Proof.Machine

/-! PROOF. The State Initializer (40_initializer.md R90 to R96): one cellular-automaton step cell by cell, its
iteration, and the commands SEED, CASTEP and INIT. Settles O11 and O13 to O17. -/

namespace Sys2Proof.Machine

/-! One step of the cellular automaton (R91). -/

theorem getElem_caStep (edge : CaEdge) (p : Vector Byte 128) {i : Nat} (hi : i < 128) :
    (caStep edge p)[i] = caCell edge p ⟨i, hi⟩ :=
  Vector.getElem_ofFn hi

theorem caStep_interior (edge : CaEdge) (p : Vector Byte 128) {i : Nat} (h1 : 1 ≤ i) (h2 : i ≤ 126) :
    (caStep edge p)[i] = p[i - 1] ^^^ (p[i] ||| p[i + 1]) := by
  rw [getElem_caStep]
  exact dif_pos ⟨h1, h2⟩

theorem caStep_zero_edge (p : Vector Byte 128) {i : Nat} (hi : i < 128) (hedge : ¬ (1 ≤ i ∧ i ≤ 126)) :
    (caStep .zero p)[i] = 0#8 := by
  rw [getElem_caStep, caCell, dif_neg hedge]

theorem caStep_carry_edge (p : Vector Byte 128) {i : Nat} (hi : i < 128) (hedge : ¬ (1 ≤ i ∧ i ≤ 126)) :
    (caStep .carry p)[i] = p[i] := by
  rw [getElem_caStep, caCell, dif_neg hedge]
  rfl

/-- A constant array becomes all zero in one step (R96 (b)): `c ^ (c | c) = 0`, and the edge cells are 0 anyway. -/
theorem caStep_zero_of_constant {p : Vector Byte 128} {c : Byte} (hp : ∀ (k : Nat) (hk : k < 128), p[k] = c) :
    caStep .zero p = Vector.replicate 128 0#8 := by
  ext i hi : 1
  rw [Vector.getElem_replicate]
  by_cases hin : 1 ≤ i ∧ i ≤ 126
  · rw [caStep_interior _ _ hin.1 hin.2, hp, hp, hp, BitVec.or_self, BitVec.xor_self]
  · exact caStep_zero_edge p hi hin

/-- Two arrays agree in bit plane `b` (R96 (c)). -/
def SameBitPlane (b : Nat) (p q : Vector Byte 128) : Prop :=
  ∀ (k : Nat) (hk : k < 128), p[k].getLsbD b = q[k].getLsbD b

/-- A step computes each bit plane from that bit plane alone: its operators are bitwise. -/
theorem caStep_sameBitPlane {b : Nat} {p q : Vector Byte 128} (h : SameBitPlane b p q) (edge : CaEdge) :
    SameBitPlane b (caStep edge p) (caStep edge q) := by
  intro i hi
  by_cases hin : 1 ≤ i ∧ i ≤ 126
  · obtain ⟨h1, h2⟩ := hin
    simp only [caStep_interior edge _ h1 h2, BitVec.getLsbD_xor, BitVec.getLsbD_or, h (i - 1) (by omega), h i hi,
      h (i + 1) (by omega)]
  · cases edge with
    | zero => rw [caStep_zero_edge p hi hin, caStep_zero_edge q hi hin]
    | carry => rw [caStep_carry_edge p hi hin, caStep_carry_edge q hi hin, h i hi]

/-! The iterated step (R92, R94). -/

theorem repeatTimes_caStep_sameBitPlane {b : Nat} {p q : Vector Byte 128} (h : SameBitPlane b p q) (edge : CaEdge)
    (n : Nat) : SameBitPlane b (repeatTimes n (caStep edge) p) (repeatTimes n (caStep edge) q) := by
  induction n with
  | zero => exact h
  | succ n ih =>
    rw [repeatTimes_succ, repeatTimes_succ]
    exact caStep_sameBitPlane ih edge

theorem repeatTimes_caStep_zero_edge {n i : Nat} (hn : 1 ≤ n) (p : Vector Byte 128) (hi : i < 128)
    (hedge : ¬ (1 ≤ i ∧ i ≤ 126)) : (repeatTimes n (caStep .zero) p)[i] = 0#8 := by
  obtain ⟨m, rfl⟩ := Nat.exists_eq_add_of_le' hn
  rw [repeatTimes_succ]
  exact caStep_zero_edge _ hi hedge

/-- After its first step a constant array is all zero, and an all-zero array is constant. -/
theorem repeatTimes_caStep_zero_of_constant {n : Nat} (hn : 1 ≤ n) {p : Vector Byte 128} {c : Byte}
    (hp : ∀ (k : Nat) (hk : k < 128), p[k] = c) :
    repeatTimes n (caStep .zero) p = Vector.replicate 128 0#8 := by
  obtain ⟨m, rfl⟩ := Nat.exists_eq_add_of_le' hn
  refine repeatTimes_keeps (· = Vector.replicate 128 0#8) _ ?_ m _ (caStep_zero_of_constant hp)
  rintro q rfl
  exact caStep_zero_of_constant fun _ hk => Vector.getElem_replicate hk

/-- R96 (a), (b) for the array that `n ≥ 1` steps with `CA_EDGE` = ZERO leave. -/
theorem repeatTimes_caStep_zero {n : Nat} (hn : 1 ≤ n) (p : Vector Byte 128) :
    (repeatTimes n (caStep .zero) p)[0] = 0#8 ∧ (repeatTimes n (caStep .zero) p)[127] = 0#8 ∧
      ((∃ c, ∀ (k : Nat) (hk : k < 128), p[k] = c) →
        ∀ (k : Nat) (hk : k < 128), (repeatTimes n (caStep .zero) p)[k] = 0#8) := by
  refine ⟨repeatTimes_caStep_zero_edge hn p _ (by decide), repeatTimes_caStep_zero_edge hn p _ (by decide), ?_⟩
  rintro ⟨c, hc⟩ k hk
  simp only [repeatTimes_caStep_zero_of_constant hn hc, Vector.getElem_replicate]

/-! The seed array (R90). -/

theorem getElem_seedState (M : Nat → Byte) (L : Nat) {k : Nat} (hk : k < 128) :
    (seedState M L)[k] = M (k % L) ^^^ BitVec.ofNat 8 (L * 37) :=
  Vector.getElem_ofFn hk

/-- The seed array looks at the first `min(L, 128)` message bytes only, each XORed with the same byte. -/
theorem getElem_seedState_of_constant {M : Nat → Byte} {L : Nat} {c : Byte} (hL : 0 < L)
    (hM : ∀ a, a < min L 128 → M a = c) {k : Nat} (hk : k < 128) :
    (seedState M L)[k] = c ^^^ BitVec.ofNat 8 (L * 37) := by
  have hlt : k % L < min L 128 := Nat.lt_min.2 ⟨Nat.mod_lt k hL, (Nat.mod_le k L).trans_lt hk⟩
  rw [getElem_seedState, hM _ hlt]

/-! The three effects, and the commands where they are accepted. -/

theorem State.castepEffect_S (n : Nat) (s : State) :
    (s.castepEffect n).S = repeatTimes n (caStep s.params.caEdge) s.S := (rfl)

theorem State.castepEffect_S_succ (n : Nat) (s : State) :
    (s.castepEffect (n + 1)).S = caStep s.params.caEdge (s.castepEffect n).S := by
  simp only [State.castepEffect_S, repeatTimes_succ]

theorem State.castepEffect_add (m n : Nat) (s : State) :
    s.castepEffect (m + n) = (s.castepEffect m).castepEffect n :=
  congrArg s.withS (repeatTimes_add m n _ s.S)

theorem State.seedEffect_S (s : State) : s.seedEffect.S = seedState s.readMsg s.LEN.toNat := (rfl)

theorem State.withS_withS (s : State) (v w : Vector Byte 128) : (s.withS v).withS w = s.withS w := (rfl)

theorem State.withS_withBLKIDX_withSEQ (s : State) (v : Vector Byte 128) (b : Word) (r : BitVec 5) (i : BitVec 4) :
    ((s.withS v).withBLKIDX b).withSEQ r i = { s with S := v, BLKIDX := b, RND := r, IDX := i } := (rfl)

theorem State.castepEffect_seedEffect (n : Nat) (s : State) :
    s.seedEffect.castepEffect n =
      s.withS (repeatTimes n (caStep s.params.caEdge) (seedState s.readMsg s.LEN.toNat)) := by
  rw [State.castepEffect, State.seedEffect_params, State.seedEffect_S, State.seedEffect, State.withS_withS]

/-- INIT's effect is SEED's, then CASTEP's at 64, with `BLKIDX` and `SEQ` at 0 (R92, R95). -/
theorem State.initEffect_eq (s : State) :
    s.initEffect = ((s.seedEffect.castepEffect 64).withBLKIDX 0#64).withSEQ 0#5 0#4 := by
  rw [State.castepEffect_seedEffect, State.initEffect, initializeState]

theorem State.initEffect_S (s : State) :
    s.initEffect.S = repeatTimes 64 (caStep s.params.caEdge) (seedState s.readMsg s.LEN.toNat) := by
  rw [State.initEffect_eq, State.castepEffect_seedEffect, State.withSEQ_S, State.withBLKIDX_S, State.withS_S]

theorem State.initEffect_frame (s : State) :
    s.initEffect = { s with S := s.initEffect.S, BLKIDX := 0#64, RND := 0#5, IDX := 0#4 } := by
  rw [State.initEffect_S, State.initEffect_eq, State.castepEffect_seedEffect, State.withS_withBLKIDX_withSEQ]

theorem exec_castep {s : State} (he : s.ERR = .none) (n : Nat) :
    exec (.castep n) s = .next (s.clearDone.castepEffect n) :=
  accept_of_none he _

/-- A command behind the length checks, with a length they pass. -/
theorem accept_initFault {s : State} (he : s.ERR = .none) (hL : s.LEN ≠ 0#64) (hM : s.LEN.toNat ≤ s.params.msgBytes)
    (effect : State → State) :
    accept s (fun s => s.guarded s.initFault effect) = .next (effect s.clearDone) := by
  have hnone : s.clearDone.initFault = none := (initFault_eq_none _).2 ⟨hL, hM⟩
  rw [accept_of_none he, hnone]
  rfl

theorem exec_seed {s : State} (he : s.ERR = .none) (hL : s.LEN ≠ 0#64) (hM : s.LEN.toNat ≤ s.params.msgBytes) :
    exec .seed s = .next s.clearDone.seedEffect :=
  accept_initFault he hL hM _

theorem exec_init {s : State} (he : s.ERR = .none) (hL : s.LEN ≠ 0#64) (hM : s.LEN.toNat ≤ s.params.msgBytes) :
    exec .init s = .next s.clearDone.initEffect :=
  accept_initFault he hL hM _

theorem execAll_cons {i : Instr} {is : List Instr} {s t : State} (h : exec i s = .next t) :
    Claims.execAll (i :: is) s = Claims.execAll is t := by
  rw [Claims.execAll, h]

/-! The statements. -/

/-- Settles O11: the byte is `getElem_seedState`, where the product is taken modulo 256 by its width. -/
theorem seedWritesTheSeedArray : Obligations.SeedWritesTheSeedArray := by
  intro s he hL hM
  refine ⟨_, exec_seed he hL hM, fun k hk => ?_, rfl, fun a => by simp⟩
  have hmod : BitVec.ofNat 8 (s.LEN.toNat * 37 % 256) = BitVec.ofNat 8 (s.LEN.toNat * 37) :=
    BitVec.eq_of_toNat_eq (by simp)
  rw [hmod]
  exact getElem_seedState s.readMsg s.LEN.toNat hk

/-- Settles O13: the step after `m` steps is `castepEffect_S_succ`, and each cell has its lemma about `caStep`. -/
theorem castepIsTheRepeatedCellRule : Obligations.CastepIsTheRepeatedCellRule := by
  intro s n he
  refine ⟨_, exec_castep he n, rfl, fun a => by simp, ?_, ?_⟩
  · rintro rfl
    rfl
  · rintro m rfl
    refine ⟨_, exec_castep he m, fun i h1 h2 => ?_, fun hzero => ?_, fun hcarry => ?_⟩
    · simp only [State.castepEffect_S_succ, caStep_interior _ _ h1 h2]
    · simp only [State.castepEffect_S_succ, State.clearDone_params, hzero]
      exact ⟨caStep_zero_edge _ _ (by decide), caStep_zero_edge _ _ (by decide)⟩
    · simp only [State.castepEffect_S_succ, State.clearDone_params, hcarry]
      exact ⟨caStep_carry_edge _ _ (by decide), caStep_carry_edge _ _ (by decide)⟩

/-- Settles O14: accepted, the two effects compose by `castepEffect_add`; with a fault pending nothing happens on
either side. -/
theorem castepsCompose : Obligations.CastepsCompose := by
  intro s m n
  by_cases he : s.ERR = .none
  · have hsecond : exec (.castep n) (s.clearDone.castepEffect m) = .next (s.clearDone.castepEffect (m + n)) := by
      rw [State.castepEffect_add]
      exact exec_castep (s := s.clearDone.castepEffect m) (by simpa using he) n
    rw [execAll_cons (exec_castep he m), execAll_cons hsecond, exec_castep he]
    rfl
  · have hignored (k : Nat) : exec (.castep k) s = .next s := accept_of_pending he _
    rw [execAll_cons (hignored m), execAll_cons (hignored n), hignored]
    rfl

/-- Settles O15: both commands iterate the step at least once, INIT from a seed array that is constant when the
message bytes it looks at are. -/
theorem zeroEdgeAndConstantArrays : Obligations.ZeroEdgeAndConstantArrays := by
  intro s he hzero
  refine ⟨fun n hn => ⟨_, exec_castep he n, ?_⟩, fun hL hM => ⟨_, exec_init he hL hM, ?_⟩⟩
  · simp only [State.castepEffect_S, State.clearDone_params, State.clearDone_S, hzero]
    exact repeatTimes_caStep_zero hn s.S
  · simp only [State.initEffect_S, State.clearDone_params, State.clearDone_readMsg, State.clearDone_LEN, hzero]
    obtain ⟨hfirst, hlast, hconstant⟩ :=
      repeatTimes_caStep_zero (n := 64) (by decide) (seedState s.readMsg s.LEN.toNat)
    refine ⟨hfirst, hlast, ?_⟩
    rintro ⟨c, hc⟩
    exact hconstant ⟨_, fun k hk => getElem_seedState_of_constant (toNat_pos_of_ne_zero hL) hc hk⟩

/-- Settles O16, by `repeatTimes_caStep_sameBitPlane`. -/
theorem cellularAutomatonBitPlanes : Obligations.CellularAutomatonBitPlanes := by
  intro s s' n b he he' hedge hbits
  refine ⟨_, _, exec_castep he n, exec_castep he' n, ?_⟩
  simp only [State.castepEffect_S, State.clearDone_params, State.clearDone_S, hedge]
  exact repeatTimes_caStep_sameBitPlane hbits s.params.caEdge n

/-- Settles O17, by `initEffect_eq`: SEED leaves `DONE` at 0 and no fault pending, so CASTEP 64 is accepted after it
and its `DONE <- 0` changes nothing. -/
theorem initIsSeedThenSixtyFourSteps : Obligations.InitIsSeedThenSixtyFourSteps := by
  intro s he hL hM
  have hcastep := exec_castep (s := s.clearDone.seedEffect) (by simpa using he) 64
  refine ⟨_, _, _, exec_seed he hL hM, hcastep, exec_init he hL hM, ?_, ?_, fun a => by simp⟩
  · rw [State.initEffect_eq]
    rfl
  · exact s.clearDone.initEffect_frame

end Sys2Proof.Machine

/-! PROOF. The Padder (41_padder.md R100 to R102): the padded length, the bytes of the padded message, and the command
PADBLK. Settles O18 to O20. -/

namespace Sys2Proof.Machine

/-! The padded length (10_state.md R38). -/

theorem newlen_eq (L : Nat) : newlen L = 64 * (L / 64 + 1) := (rfl)

theorem lt_newlen (L : Nat) : L < newlen L := by
  rw [newlen_eq]
  omega

theorem newlen_mod_64 (L : Nat) : newlen L % 64 = 0 := Nat.mul_mod_right 64 _

theorem newlen_le {L n : Nat} (hn : n % 64 = 0) (hL : L < n) : newlen L ≤ n := by
  rw [newlen_eq]
  omega

/-! The three terms of R100: a byte's width takes a product modulo 256 as the rule does. -/

theorem byte_ofNat_mod (n : Nat) : BitVec.ofNat 8 (n % 256) = BitVec.ofNat 8 n :=
  BitVec.eq_of_toNat_eq (by simp)

theorem fillByte_eq (p : Nat) : fillByte p = BitVec.ofNat 8 ((p * 0x41C64E6D) % 256) :=
  (byte_ofNat_mod (p * 0x41C64E6D)).symm

theorem markerByte_eq (L : Nat) : markerByte L = 0x80#8 ^^^ BitVec.ofNat 8 ((L * 31) % 256) := by
  rw [byte_ofNat_mod]
  rfl

theorem lastTerm_eq (L : Nat) : lastTerm L = 0x01#8 ^^^ BitVec.ofNat 8 ((newlen L * 17) % 251) := (rfl)

/-! `padByte`, one equation for each place an index can have in the padded message. -/

theorem padByte_message {M : Nat → Byte} {L p : Nat} (hp : p < L) : padByte M L p = M p := by
  have hlast : p ≠ newlen L - 1 := by have := lt_newlen L; omega
  simp only [padByte, if_pos hp, if_neg hp.ne, if_neg hlast]

theorem padByte_fill (M : Nat → Byte) {L p : Nat} (hp : L < p) (hlast : p ≠ newlen L - 1) :
    padByte M L p = fillByte p := by
  simp only [padByte, if_neg hp.not_gt, if_neg hp.ne', if_neg hlast]

theorem padByte_marker (M : Nat → Byte) {L p : Nat} (hp : p = L) (hlast : p ≠ newlen L - 1) :
    padByte M L p = markerByte L := by
  simp only [padByte, if_pos hp, if_neg hlast]

theorem padByte_fill_last (M : Nat → Byte) {L p : Nat} (hp : L < p) (hlast : p = newlen L - 1) :
    padByte M L p = fillByte p ||| lastTerm L := by
  simp only [padByte, if_neg hp.not_gt, if_neg hp.ne', if_pos hlast]

theorem padByte_marker_last (M : Nat → Byte) {L p : Nat} (hp : p = L) (hlast : p = newlen L - 1) :
    padByte M L p = markerByte L ||| lastTerm L := by
  simp only [padByte, if_pos hp, if_pos hlast]

/-- The first two steps of the source (R101): the padding region of the zero-extended copy holds 0, so the XOR leaves
the fill byte there, and it does not reach the message. -/
theorem zeroExtended_xor_fill (M : Nat → Byte) {L N p : Nat} (hp : p < N) :
    (if L ≤ p ∧ p ≤ N - 1 then (if p < L then M p else 0#8) ^^^ BitVec.ofNat 8 ((p * 0x41C64E6D) % 256)
      else if p < L then M p else 0#8) = if p < L then M p else fillByte p := by
  by_cases hL : p < L
  · have hmessage : ¬ (L ≤ p ∧ p ≤ N - 1) := by omega
    rw [if_neg hmessage, if_pos hL, if_pos hL]
  · have hpadding : L ≤ p ∧ p ≤ N - 1 := by omega
    rw [if_pos hpadding, if_neg hL, if_neg hL, BitVec.zero_xor, fillByte_eq]

/-- The last two steps of the source are the last two lines of `padByte`. -/
theorem padByte_eq_sourcePad (M : Nat → Byte) {L p : Nat} (hp : p < newlen L) :
    padByte M L p = Claims.sourcePad M L (newlen L) p := by
  simp only [Claims.sourcePad, zeroExtended_xor_fill M hp, padByte, markerByte_eq, lastTerm_eq]

theorem getElem_padBlock (M : Nat → Byte) (L b : Nat) {j : Nat} (hj : j < 64) :
    (padBlock M L b)[j] = padByte M L (64 * b + j) :=
  Vector.getElem_ofFn hj

/-! The command PADBLK (R102). -/

theorem padFault_lengthRange {s : State} (hM : s.params.msgBytes < s.LEN.toNat) : s.padFault = some .lengthRange :=
  if_pos hM

theorem padFault_blockRange {s : State} (hM : s.LEN.toNat ≤ s.params.msgBytes)
    (hb : nblk s.LEN.toNat ≤ s.BLKIDX.toNat) : s.padFault = some .blockRange := by
  rw [State.padFault, if_neg hM.not_gt, if_pos hb]

theorem exec_padblk {s : State} (he : s.ERR = .none) :
    exec .padblk s = .next (s.clearDone.guarded s.padFault State.padEffect) :=
  accept_of_none he fun s => s.guarded s.padFault State.padEffect

theorem exec_padblk_fault {s : State} (he : s.ERR = .none) {e : ErrCode} (hf : s.padFault = some e) :
    exec .padblk s = .next { s with ERR := e, DONE := false } := by
  rw [exec_padblk he, hf]
  rfl

theorem exec_padblk_ok {s : State} (he : s.ERR = .none) (hM : s.LEN.toNat ≤ s.params.msgBytes)
    (hb : s.BLKIDX.toNat < nblk s.LEN.toNat) : exec .padblk s = .next s.clearDone.padEffect := by
  rw [exec_padblk he, (padFault_eq_none s).2 ⟨hM, hb⟩]
  rfl

theorem State.withBLK_withBLKIDX (s : State) (v : Vector Byte 64) (b : Word) :
    (s.withBLK v).withBLKIDX b = { s with BLK := v, BLKIDX := b } := (rfl)

theorem State.padEffect_frame (s : State) :
    s.padEffect = { s with BLK := s.padEffect.BLK, BLKIDX := s.padEffect.BLKIDX } := by
  rw [State.padEffect_BLK, State.padEffect_BLKIDX, State.padEffect, State.withBLK_withBLKIDX]

theorem getElem_padEffect_BLK (s : State) {j : Nat} (hj : j < 64) :
    s.padEffect.BLK[j] = padByte s.readMsg s.LEN.toNat (64 * s.BLKIDX.toNat + j) :=
  getElem_padBlock s.readMsg s.LEN.toNat s.BLKIDX.toNat hj

/-- A block index that PADBLK accepts does not wrap: the number of blocks fits the register. -/
theorem padEffect_BLKIDX_toNat {s : State} (hb : s.BLKIDX.toNat < nblk s.LEN.toNat) :
    s.padEffect.BLKIDX.toNat = s.BLKIDX.toNat + 1 := by
  have hnblk := nblk_lt s.LEN
  rw [State.padEffect_BLKIDX]
  bv_omega

/-! The statements. -/

/-- Settles O19: the block's byte is `getElem_padEffect_BLK`, and each clause is the equation of `padByte` for its
place. -/
theorem padblkWritesThePaddedBlock : Obligations.PadblkWritesThePaddedBlock := by
  rintro s L N rfl rfl he hM hb
  refine ⟨_, exec_padblk_ok he hM hb, ?_, padEffect_BLKIDX_toNat (s := s.clearDone) hb,
    s.clearDone.padEffect_frame, fun a => by simp⟩
  rintro j p hj rfl
  rw [getElem_padEffect_BLK _ hj]
  simp only [State.clearDone_readMsg, State.clearDone_LEN, State.clearDone_BLKIDX, ← newlen_eq, ← fillByte_eq,
    ← markerByte_eq, ← lastTerm_eq]
  exact ⟨padByte_message, padByte_fill _, padByte_marker _, padByte_fill_last _, padByte_marker_last _⟩

/-- Settles O20, by `padByte_eq_sourcePad` and the lemmas about `newlen`. -/
theorem padByteIsTheSourceProcedure : Obligations.PadByteIsTheSourceProcedure :=
  ⟨fun M _ _ hp => padByte_eq_sourcePad M hp, fun L => ⟨lt_newlen L, newlen_mod_64 L, fun _ => newlen_le⟩⟩

/-- Settles O18: the checks answer the fault (R164), and a fault writes `ERR` and `DONE` alone. -/
theorem padblkFaultOrder : Obligations.PadblkFaultOrder := fun _ he =>
  ⟨fun hM => exec_padblk_fault he (padFault_lengthRange hM),
    fun hM hb => exec_padblk_fault he (padFault_blockRange hM hb)⟩

end Sys2Proof.Machine

/-! PROOF. The Round-Constant Generator (42_round_constant.md): `polyhash31` as a polynomial in 31 by Horner's rule, the
byte loop on the all-zero state as one rotation, and RCGEN. Settles O22 to O25. -/

namespace Sys2Proof.Machine

open Sys2Proof.Claims

/-! The loop and the command (R111, R113). -/

/-- Settles O23: the rule's two loops, from the rule's seed on. -/
theorem roundConstantIsTheRuleLoop : Obligations.RoundConstantIsTheRuleLoop := roundConstant_eq_ruleLoop

/-- Settles O22: RCGEN's effect and frame. -/
theorem rcgenWritesTheRoundConstant : Obligations.RcgenWritesTheRoundConstant := fun _ herr => exec_rcgen herr rfl

/-! `polyhash31` (R110). -/

theorem toList_eq_map_finRange {n : Nat} (B : Vector Byte n) : B.toList = (List.finRange n).map (fun k => B[k]) := by
  simpa [Function.comp_def] using congrArg (List.map Prod.fst) (toList_zipIdx B)

theorem polyhashFrom_eq_foldl (signed : Bool) (h : Word) (bs : List Byte) :
    polyhashFrom signed h bs = bs.foldl (fun h b => h * 31#64 + widen signed b) h := by
  induction bs generalizing h with
  | nil => rfl
  | cons b bs ih => exact ih _

/-- Horner's rule: multiplying by `x` before each coefficient is added gives the first coefficient the highest power. -/
theorem foldl_mul_add_eq_sum {n : Nat} (x h : Word) (c : Fin n → Word) :
    (List.finRange n).foldl (fun h k => h * x + c k) h =
      h * x ^ n + ((List.finRange n).map (fun k => c k * x ^ k.rev.val)).sum := by
  induction n generalizing h with
  | zero => simp
  | succ n ih =>
    rw [List.finRange_succ, List.foldl_cons, List.foldl_map, ih, List.map_cons, List.map_map, List.sum_cons]
    simp only [Function.comp_def, Fin.rev_succ, Fin.val_castSucc, Fin.rev_zero, Fin.val_last]
    ring

/-- R110's second form of `polyhash31`, with the power of byte `k` counted from the end of the array. -/
theorem stateHash_of_polyhash31 {p : Params} (hp : p.stateHash = .polyhash31) (B : Vector Byte 128) :
    stateHash p B = ((List.finRange 128).map (fun k => widen p.byteSigned B[k] * 31#64 ^ k.rev.val)).sum := by
  have hloop : stateHash p B = polyhashFrom p.byteSigned 0#64 B.toList := by simp only [stateHash, hp]
  rw [hloop, polyhashFrom_eq_foldl, toList_eq_map_finRange, List.foldl_map, foldl_mul_add_eq_sum, BitVec.zero_mul,
    BitVec.zero_add]

/-- Settles O24: Horner's rule over the 128 bytes, from 0 on. -/
theorem polyhashIsTheBytePolynomial : Obligations.PolyhashIsTheBytePolynomial := by
  intro p B hp
  have hpow (k : Fin 128) : BitVec.ofNat 64 (31 ^ (127 - k.val)) = 31#64 ^ k.rev.val := by
    rw [BitVec.ofNat_pow, Fin.val_rev, Nat.add_comm, Nat.sub_add_eq]
  simp only [stateHash_of_polyhash31 hp, hpow]

/-! The all-zero state (R114). -/

theorem widen_zero (signed : Bool) : widen signed 0#8 = 0#64 := by
  cases signed <;> rfl

theorem getElem_replicate_zero {n : Nat} (i : Fin n) : (Vector.replicate n 0#8)[i] = 0#8 :=
  Vector.getElem_replicate i.isLt

theorem stateHash_zero {p : Params} (hp : p.stateHash = .polyhash31) :
    stateHash p (Vector.replicate 128 0#8) = 0#64 := by
  rw [stateHash_of_polyhash31 hp]
  simp only [getElem_replicate_zero, widen_zero, BitVec.zero_mul]
  exact List.sum_map_zero

theorem rotateLeft_zero {w : Nat} (x : BitVec w) : x.rotateLeft 0 = x := by
  refine BitVec.eq_of_getMsbD_eq fun i hi => ?_
  rw [BitVec.getMsbD_rotateLeft, Nat.zero_add, Nat.mod_eq_of_lt hi, decide_eq_true hi, Bool.true_and]

theorem rotateLeft_rotateLeft {w : Nat} (x : BitVec w) (m n : Nat) :
    (x.rotateLeft m).rotateLeft n = x.rotateLeft (m + n) := by
  refine BitVec.eq_of_getMsbD_eq fun i hi => ?_
  have hmod : (n + i) % w < w := Nat.mod_lt _ (Nat.zero_lt_of_lt hi)
  simp only [BitVec.getMsbD_rotateLeft, hi, hmod, decide_true, Bool.true_and, Nat.add_mod_mod, Nat.add_assoc]

/-- Rotations one after another are one rotation by the sum of the amounts. -/
theorem foldl_rotateLeft {ι : Type} (amount : ι → Nat) (is : List ι) (x : Word) :
    is.foldl (fun y i => y.rotateLeft (amount i)) x = x.rotateLeft (is.map amount).sum := by
  induction is generalizing x with
  | nil => exact (rotateLeft_zero x).symm
  | cons i is ih => rw [List.foldl_cons, ih, rotateLeft_rotateLeft, List.map_cons, List.sum_cons]

/-- R114 (a): the 128 amounts of the byte loop add up to 1141, and `1141 mod 64 = 53`. -/
theorem byteLoop_amounts_mod : ((List.finRange 128).map (fun i => i.val % 13 + 3)).sum % 64 = 53 := by decide +kernel

/-- R114 (a): a zero byte leaves the XOR without effect, so the byte loop over zero bytes only rotates. -/
theorem byteLoop_zero (signed : Bool) (seed : Word) :
    (List.finRange 128).foldl
      (fun seed i => (seed ^^^ widen signed (Vector.replicate 128 0#8)[i] * 0xA3B195354A39B70D#64).rotateLeft
        (i.val % 13 + 3)) seed = seed.rotateLeft 53 := by
  simp only [getElem_replicate_zero, widen_zero, BitVec.zero_mul, BitVec.xor_zero]
  rw [foldl_rotateLeft, ← BitVec.rotateLeft_mod_eq_rotateLeft, byteLoop_amounts_mod]

theorem roundConstant_zero {p : Params} (hp : p.stateHash = .polyhash31) (r : Nat) :
    roundConstant p r (Vector.replicate 128 0#8) =
      (List.range 8).foldl (fun seed _ => (seed * 0x41C64E6D#64 + 0x3039#64).rotateLeft 17)
        ((BitVec.ofNat 64 r * 0x9E3779B97F4A7C15#64).rotateLeft 53) := by
  rw [roundConstant_eq_ruleLoop, byteLoop_zero, stateHash_zero hp, BitVec.zero_xor]

/-- Settles O25: `roundConstant_zero`; round 0 enters the closing rounds with 0, and they are evaluated. -/
theorem zeroStateRoundConstant : Obligations.ZeroStateRoundConstant := by
  refine fun p hp => ⟨roundConstant_zero hp, by decide, ?_⟩
  rw [roundConstant_zero hp]
  decide

end Sys2Proof.Machine

/-! PROOF. The Non-linear Substitution (43_sbox.md): the command SBOX, the two right shifts of step 3 and what they
leave of the digest, the byte-palindromic results, and the steps that are invertible. Settles O26 to O28 and O36. -/

namespace Sys2Proof.Machine

/-! The command (R123), with R120's steps in Lean's own operators and R9's literals. -/

theorem sboxStep2_eq (x : Word) : sboxStep2 x = x.rotateLeft 13 := rotl64_eq_rotateLeft x 13 (by decide)

theorem sboxStep3_eq (k : SboxShift) (x : Word) :
    sboxStep3 k x = x ^^^ ((if k = .arith then x.sshiftRight 11 else x >>> 11) &&& 0xD6E8FEB8A#64) := by
  cases k with
  | arith =>
    have hshift : sboxShift .arith x sboxShr = x.sshiftRight 11 := asr64_eq_sshiftRight x 11 (by decide)
    rw [sboxStep3, hshift, if_pos rfl, K_SMASK]
  | logical => rfl

/-- SBOX with no fault pending: `X` and `DONE`, and nothing else. The value written is a variable, so that nothing
evaluates the S-box. -/
theorem exec_sbox {s : State} {x : Word} (he : s.ERR = .none) (hx : sbox s.params.sboxShift s.X = x) :
    ∃ t, exec .sbox s = .next t ∧ t.X = x ∧ t = { s with X := t.X, DONE := false } ∧
      (∀ a, t.readMsg a = s.readMsg a) := by
  have hexec : exec .sbox s = .next (s.clearDone.withX x) := by
    rw [← hx]
    exact accept_of_none he State.sboxEffect
  exact ⟨_, hexec, rfl, rfl, fun _ => rfl⟩

/-- Settles O26: the model's steps are the rule's, and the byte-reversed word of step 5 is `bswap64`. -/
theorem sboxAppliesTheFiveSteps : Obligations.SboxAppliesTheFiveSteps := by
  intro s x1 x2 x3 x4 he h1 h2 h3 h4
  have hx : sbox s.params.sboxShift s.X = x4 ^^^ bswap64 x4 := by
    rw [sbox, sboxStep2_eq, sboxStep3_eq, h4, h3, h2, h1]
    rfl
  obtain ⟨t, ht, hX, hframe, hmsg⟩ := exec_sbox he hx
  exact ⟨t, bswap64 x4, ht, hX, byteOf_bswap64 x4, hframe, hmsg⟩

/-! The kind of right shift (R121). -/

/-- The two shifts agree below the eleven bits that enter at the top. -/
theorem asr64_getLsbD_eq_lsr64 (x : Word) {b : Nat} (hb : b < 53) :
    (asr64 x 11).getLsbD b = (lsr64 x 11).getLsbD b := by
  have hb64 : b < 64 := by omega
  have hb11 : 11 + b < 64 := by omega
  rw [asr64_eq_sshiftRight x 11 (by decide), lsr64, BitVec.getLsbD_sshiftRight, BitVec.getLsbD_ushiftRight]
  simp [hb64, hb11]

theorem K_SMASK_lt : K_SMASK.toNat < 2 ^ 36 := by decide

theorem K_SMASK_getLsbD_of_ge {b : Nat} (hb : 36 ≤ b) : K_SMASK.getLsbD b = false := by
  rw [← BitVec.testBit_toNat]
  exact Nat.testBit_lt_two_pow (K_SMASK_lt.trans_le (Nat.pow_le_pow_right (by decide) hb))

/-- Below bit 53 the shifts agree, and from bit 36 on the mask discards every bit. -/
theorem asr64_and_K_SMASK (x : Word) : asr64 x 11 &&& K_SMASK = lsr64 x 11 &&& K_SMASK := by
  refine BitVec.eq_of_getLsbD_eq fun b _ => ?_
  rw [BitVec.getLsbD_and, BitVec.getLsbD_and]
  by_cases hb : b < 53
  · rw [asr64_getLsbD_eq_lsr64 x hb]
  · rw [K_SMASK_getLsbD_of_ge (by omega), Bool.and_false, Bool.and_false]

theorem sboxStep3_eq_logical (k : SboxShift) (x : Word) : sboxStep3 k x = x ^^^ (x >>> 11 &&& K_SMASK) := by
  cases k with
  | arith => exact congrArg (x ^^^ ·) (asr64_and_K_SMASK x)
  | logical => rfl

/-- The S-box is the same function with either shift. -/
theorem sbox_shiftKind (k k' : SboxShift) (x : Word) : sbox k x = sbox k' x := by
  simp only [sbox, sboxStep3_eq_logical]

/-- Settles O27: the bits, the mask, and `sbox_shiftKind`. -/
theorem sboxShiftKindIsUnobservable : Obligations.SboxShiftKindIsUnobservable :=
  ⟨fun x _ hb => asr64_getLsbD_eq_lsr64 x hb, K_SMASK_lt, sbox_shiftKind .arith .logical⟩

/-! The digest (R121, 45_absorber_hash.md R146): no function between the S-box and the digest reads the parameter. -/

section
variable (p : Params) (k : SboxShift)

theorem mixWord_shiftKind (S : Vector Byte 128) (i : Fin 16) (rc : Word) :
    mixWord { p with sboxShift := k } S i rc = mixWord p S i rc := by
  simp only [mixWord, sbox_shiftKind k p.sboxShift]

theorem wordStep_shiftKind (r : Nat) (i : Fin 16) (S : Vector Byte 128) :
    wordStep { p with sboxShift := k } r i S = wordStep p r i S := by
  have hrc : roundConstant { p with sboxShift := k } r S = roundConstant p r S := rfl
  simp only [wordStep, hrc, mixWord_shiftKind]

theorem permute_shiftKind (S : Vector Byte 128) : permute { p with sboxShift := k } S = permute p S := by
  simp only [permute, permuteWithConstant, wordStep_shiftKind]

theorem sihaHash_shiftKind (M : Nat → Byte) (L : Nat) :
    sihaHash { p with sboxShift := k } M L = sihaHash p M L := by
  simp only [sihaHash, hashState, absorbBlocks, permute_shiftKind]

end

/-- Settles O36: with either shift the digest is that of the parameters as they were. -/
theorem digestIgnoresTheShiftKind : Obligations.DigestIgnoresTheShiftKind := fun p M L k k' =>
  (sihaHash_shiftKind p k M L).trans (sihaHash_shiftKind p k' M L).symm

/-! The value 0 (R122 (a)). -/

theorem sboxStep3_zero (k : SboxShift) : sboxStep3 k 0#64 = 0#64 := by
  rw [sboxStep3_eq_logical, BitVec.zero_ushiftRight, BitVec.zero_and, BitVec.xor_zero]

theorem sboxStep5_of_bswap64_eq {x : Word} (h : bswap64 x = x) : sboxStep5 x = 0#64 := by
  rw [sboxStep5, h, BitVec.xor_self]

theorem sbox_zero (k : SboxShift) : sbox k 0#64 = 0#64 := by
  have h12 : sboxStep2 (sboxStep1 0#64) = 0#64 := by decide
  rw [sbox, h12, sboxStep3_zero]
  decide

/-! Byte-palindromic words (R122 (b), (c)). -/

theorem bswap64_sboxStep5 (x : Word) : bswap64 (sboxStep5 x) = sboxStep5 x := by
  rw [sboxStep5, bswap64_xor, bswap64_bswap64, BitVec.xor_comm]

theorem bswap64_sbox (k : SboxShift) (x : Word) : bswap64 (sbox k x) = sbox k x := bswap64_sboxStep5 _

theorem byteOf_of_bswap64_eq {x : Word} (h : bswap64 x = x) {n : Nat} (hn : n < 8) : byteOf x n = byteOf x (7 - n) := by
  rw [← byteOf_bswap64 x n hn, h]

/-- A byte-palindromic word is determined by its low half: bytes 4 to 7 are bytes 3 to 0. -/
theorem eq_of_bswap64_eq_of_low {x y : Word} (hx : bswap64 x = x) (hy : bswap64 y = y)
    (hlow : x.extractLsb' 0 32 = y.extractLsb' 0 32) : x = y := by
  have hbyte (n : Nat) (hn : n < 4) : byteOf x n = byteOf y n := by
    have hle : 8 * n + 8 ≤ 32 := by omega
    rw [byteOf, ← BitVec.extractLsb'_extractLsb'_of_le hle, hlow, BitVec.extractLsb'_extractLsb'_of_le hle, byteOf]
  refine word_ext fun n hn => ?_
  by_cases hn4 : n < 4
  · exact hbyte n hn4
  · rw [byteOf_of_bswap64_eq hx hn, byteOf_of_bswap64_eq hy hn]
    exact hbyte (7 - n) (by omega)

theorem sbox_eq_of_low (k : SboxShift) {x y : Word}
    (hlow : (sbox k x).extractLsb' 0 32 = (sbox k y).extractLsb' 0 32) : sbox k x = sbox k y :=
  eq_of_bswap64_eq_of_low (bswap64_sbox k x) (bswap64_sbox k y) hlow

/-- The low half tells the results apart, and it has 32 bits. -/
theorem ncard_range_sbox_le (k : SboxShift) : (Set.range (sbox k)).ncard ≤ 2 ^ 32 := by
  have hinj : Set.InjOn (fun x : Word => x.extractLsb' 0 32) (Set.range (sbox k)) := by
    rintro _ ⟨x, rfl⟩ _ ⟨y, rfl⟩ hlow
    exact sbox_eq_of_low k hlow
  calc (Set.range (sbox k)).ncard
      ≤ (Set.univ : Set (BitVec 32)).ncard := Set.ncard_le_ncard_of_injOn _ (fun _ _ => Set.mem_univ _) hinj
    _ = Nat.card (Fin (2 ^ 32)) := by rw [Set.ncard_univ, Nat.card_congr BitVec.equivFin.toEquiv]
    _ = 2 ^ 32 := Nat.card_fin _

/-- `w ^ sbox(w)` is palindromic only where `w` is. -/
theorem bswap64_xor_sbox_eq_iff (k : SboxShift) (w : Word) :
    bswap64 (w ^^^ sbox k w) = w ^^^ sbox k w ↔ bswap64 w = w := by
  rw [bswap64_xor, bswap64_sbox, BitVec.xor_left_inj]

/-! The invertible steps (R122 (d)). -/

/-- XOR with a function each of whose bits depends on bits of a lower rank alone: the bits of the argument can be
found again in the order of their rank. -/
theorem xor_injective_of_rank {g : Word → Word} (rank : Nat → Nat)
    (hg : ∀ x y i, i < 64 → (∀ j, rank j < rank i → x.getLsbD j = y.getLsbD j) →
      (g x).getLsbD i = (g y).getLsbD i) :
    Function.Injective (fun x => x ^^^ g x) := by
  intro x y hxy
  have hbit : ∀ r i, rank i = r → x.getLsbD i = y.getLsbD i := by
    intro r
    induction r using Nat.strong_induction_on with
    | _ r ih =>
      rintro i rfl
      by_cases hi : i < 64
      · have hsum := congrArg (fun z => z.getLsbD i) hxy
        simp only [BitVec.getLsbD_xor] at hsum
        rw [hg x y i hi fun j hj => ih (rank j) hj j rfl] at hsum
        exact Bool.xor_left_inj.1 hsum
      · rw [BitVec.getLsbD_of_ge x i (by omega), BitVec.getLsbD_of_ge y i (by omega)]
  exact BitVec.eq_of_getLsbD_eq fun i _ => hbit _ i rfl

/-- Step 1 is found again from bit 0 upwards: a left shift brings lower bits. -/
theorem sboxStep1_bijective : Function.Bijective sboxStep1 := by
  refine Finite.injective_iff_bijective.1 (xor_injective_of_rank id fun x y i _ hlower => ?_)
  simp only [shl64, BitVec.getLsbD_and, BitVec.getLsbD_shiftLeft]
  by_cases hi : i < sboxShl
  · simp [hi]
  · rw [hlower (i - sboxShl) (Nat.sub_lt_self (by decide) (Nat.le_of_not_lt hi))]

theorem sboxStep2_bijective : Function.Bijective sboxStep2 := by
  have hinv (m n : Nat) (hmn : (m + n) % 64 = 0) (x : Word) : (x.rotateLeft m).rotateLeft n = x := by
    rw [rotateLeft_rotateLeft, ← BitVec.rotateLeft_mod_eq_rotateLeft, hmn, rotateLeft_zero]
  rw [funext sboxStep2_eq]
  exact Function.bijective_iff_has_inverse.2 ⟨fun x => x.rotateLeft 51, hinv 13 51 rfl, hinv 51 13 rfl⟩

/-- Step 3 is found again from bit 63 downwards: a right shift brings higher bits. -/
theorem sboxStep3_bijective (k : SboxShift) : Function.Bijective (sboxStep3 k) := by
  rw [funext (sboxStep3_eq_logical k)]
  refine Finite.injective_iff_bijective.1 (xor_injective_of_rank (fun i => 64 - i) fun x y i _ hhigher => ?_)
  rw [BitVec.getLsbD_and, BitVec.getLsbD_and, BitVec.getLsbD_ushiftRight, BitVec.getLsbD_ushiftRight,
    hhigher (11 + i) (by omega)]

/-- The inverse of the odd multiplier `K_MIX` modulo 2^64. -/
def K_MIX_INV : Word := 0x82D2E9550235EFC5#64

theorem K_MIX_mul_inv : K_MIX * K_MIX_INV = 1#64 := by decide

theorem sboxStep4_bijective : Function.Bijective sboxStep4 := by
  refine Function.bijective_iff_has_inverse.2 ⟨(· * K_MIX_INV), fun x => ?_, fun x => ?_⟩
  · simp only [sboxStep4]
    rw [BitVec.mul_assoc, K_MIX_mul_inv, BitVec.mul_one]
  · simp only [sboxStep4]
    rw [BitVec.mul_assoc, BitVec.mul_comm K_MIX_INV, K_MIX_mul_inv, BitVec.mul_one]

/-- Step 5 sends every byte-palindromic word to 0, not the word 0 alone. -/
theorem sboxStep5_not_injective : ¬ Function.Injective sboxStep5 := by
  intro hinj
  have hpal : bswap64 0x0100000000000001#64 = 0x0100000000000001#64 := by decide
  have heq : (0x0100000000000001#64 : Word) = 0#64 :=
    hinj ((sboxStep5_of_bswap64_eq hpal).trans (sboxStep5_of_bswap64_eq (by decide)).symm)
  exact absurd heq (by decide)

/-- Steps 1 to 4 reach every word, so what step 5 loses the S-box loses. -/
theorem sbox_not_injective (k : SboxShift) : ¬ Function.Injective (sbox k) := by
  have hsurj : Function.Surjective (sboxStep4 ∘ sboxStep3 k ∘ sboxStep2 ∘ sboxStep1) :=
    (sboxStep4_bijective.comp
      ((sboxStep3_bijective k).comp (sboxStep2_bijective.comp sboxStep1_bijective))).surjective
  exact fun hinj => sboxStep5_not_injective (Function.Injective.of_comp_right (f := sboxStep5) hinj hsurj)

/-- Settles O28, rule by rule; the word 1 is not byte-palindromic. -/
theorem sboxProperties : Obligations.SboxProperties := fun k =>
  ⟨sbox_zero k, by decide, by decide, sboxStep3_zero k, by decide, sboxStep5_of_bswap64_eq (by decide),
    bswap64_sbox k, fun x _ hn => byteOf_of_bswap64_eq (bswap64_sbox k x) hn, fun _ _ => sbox_eq_of_low k,
    ncard_range_sbox_le k, sbox_not_injective k,
    ⟨1#64, fun h => absurd ((bswap64_xor_sbox_eq_iff k 1#64).1 h) (by decide)⟩,
    sboxStep1_bijective, sboxStep2_bijective, sboxStep3_bijective k, sboxStep4_bijective, sboxStep5_not_injective⟩

end Sys2Proof.Machine

/-! PROOF. The Permutation Engine (44_permutation.md R130 to R135): one word-step, the sequence of word-steps that ends a
round, and the 512 of a whole permutation. -/

namespace Sys2Proof.Machine

/-! Commands repeated with no host event in between. -/

/-- An accepted command that touches neither flag, `n ≥ 1` times in a row: `DONE` is cleared once, then its effect is
the body of a loop (30_encoding.md R75). -/
theorem execAll_replicate {i : Instr} {effect : State → State} (haccept : ∀ s, exec i s = accept s effect)
    (hERR : ∀ s, (effect s).ERR = s.ERR) (hDONE : ∀ s, (effect s).DONE = s.DONE) {s : State} (he : s.ERR = .none)
    {n : Nat} (hn : 0 < n) : Claims.execAll (List.replicate n i) s = .next (repeatTimes n effect s.clearDone) := by
  have hexec : ∀ {u : State}, u.ERR = .none → exec i u = .next (effect u.clearDone) := fun hu =>
    (haccept _).trans (accept_of_none hu effect)
  induction n, hn using Nat.le_induction generalizing s with
  | base => exact execAll_cons (hexec he)
  | succ n _ ih =>
    have hkept : (effect s.clearDone).clearDone = effect s.clearDone :=
      congrArg (State.withDONE _) (hDONE s.clearDone).symm
    rw [List.replicate_succ, execAll_cons (hexec he), ih (s := effect s.clearDone) ((hERR _).trans he), hkept,
      repeatTimes]

theorem execAll_replicate_wstep {s : State} (he : s.ERR = .none) {n : Nat} (hn : 0 < n) :
    Claims.execAll (List.replicate n .wstep) s = .next (repeatTimes n State.wstepEffect s.clearDone) :=
  execAll_replicate (fun _ => rfl) State.wstepEffect_ERR State.wstepEffect_DONE he hn

/-! What the three commands leave alone (10_state.md R20). -/

/-- The fields the permutation engine does not write fix all but `S`, `RC` and `SEQ`. -/
theorem State.eq_of_unmixed {s t : State} (hBLK : t.BLK = s.BLK) (hLEN : t.LEN = s.LEN) (hBLKIDX : t.BLKIDX = s.BLKIDX)
    (hX : t.X = s.X) (hDONE : t.DONE = false) (hERR : t.ERR = s.ERR) (hMSG : t.MSG = s.MSG)
    (hdraw : t.msgDraw = s.msgDraw) (hparams : t.params = s.params) (hhost : t.host = s.host)
    (hresponses : t.responses = s.responses) :
    t = { s with S := t.S, RC := t.RC, RND := t.RND, IDX := t.IDX, DONE := false } := by
  rw [← hBLK, ← hLEN, ← hBLKIDX, ← hX, ← hDONE, ← hERR, ← hMSG, ← hdraw, ← hparams, ← hhost, ← hresponses]

/-! The word-step (R130, R133). -/

/-- The chain of values of R130 with Lean's own rotation and R9's literal. -/
theorem mixWord_eq_of_chain {p : Params} {S : Vector Byte 128} {i : Fin 16} {rc temp w1 w2 w3 w4 : Word}
    (htemp : temp = wordAt p.byteOrder S (i + 1) ^^^ rc)
    (h1 : w1 = (wordAt p.byteOrder S i + temp).rotateLeft (i.val % 7 + 5))
    (h2 : w2 = w1 ^^^ wordAt p.byteOrder S (i + 2) ^^^ bswap64 (wordAt p.byteOrder S (i + 3)))
    (h3 : w3 = w2 ^^^ (temp <<< 3 ||| temp >>> 61)) (h4 : w4 = w3 * 0x5DEECE66D#64) :
    mixWord p S i rc = w4 ^^^ sbox p.sboxShift w4 := by
  rw [← rotl64_eq_rotateLeft _ _ (show i.val % 7 + 5 < 64 by omega)] at h1
  rw [h4, h3, h2, h1, htemp]
  rfl

theorem State.wordIndex_eq {s : State} {i : Fin 16} (hi : i.val = s.IDX.toNat) : s.wordIndex = i := Fin.ext hi.symm

/-- The words of the state after a word-step: the one `SEQ.IDX` points at is mixed, the others stay. -/
theorem State.wstepEffect_wordAt (s : State) (m : Fin 16) :
    wordAt s.params.byteOrder s.wstepEffect.S m =
      if m = s.wordIndex then mixWord s.params s.S s.wordIndex (roundConstant s.params s.RND.toNat s.S)
      else wordAt s.params.byteOrder s.S m := by
  rw [State.wstepEffect_S, wordStep, wordAt_setWordAt]

/-- Within a round `SEQ.IDX` counts up (10_state.md R30). -/
theorem State.wstepEffect_IDX_toNat {s : State} (h : s.IDX ≠ 15#4) : s.wstepEffect.IDX.toNat = s.IDX.toNat + 1 := by
  rw [State.wstepEffect_IDX]
  bv_omega

/-- Settles O29: the word by `mixWord_eq_of_chain`, the other words and `SEQ` by the rules of the word-step. -/
theorem wstepMixesOneWord : Obligations.WstepMixesOneWord := by
  intro s i rc temp w1 w2 w3 w4 W he hi hrc hW htemp h1 h2 h3 h4
  subst hW
  obtain rfl : s.wordIndex = i := State.wordIndex_eq hi
  have hword := s.clearDone.wstepEffect_wordAt
  refine ⟨s.clearDone.wstepEffect, accept_of_none he State.wstepEffect, ?_, fun m hm => ?_, ?_, fun h => ?_,
    fun h => ?_, ?_, fun a => ?_⟩
  · rw [← mixWord_eq_of_chain htemp h1 h2 h3 h4, hrc]
    exact (hword _).trans (if_pos rfl)
  · exact (hword m).trans (if_neg hm)
  · rw [State.wstepEffect_RC, hrc]
    rfl
  · simp [h, BitVec.toNat_add]
  · exact ⟨State.wstepEffect_IDX_toNat (s := s.clearDone) h, by simp [h]⟩
  · apply State.eq_of_unmixed <;> simp
  · simp

/-! The rest of a round (R134). -/

/-- From word `IDX` on, the `16 - IDX` word-steps that are left make up the loop of ROUND, and they move `SEQ` to the
start of the next round. -/
theorem State.roundLoop_eq_repeatTimes {n : Nat} {s : State} (hn : 16 - s.IDX.toNat ≤ n) :
    State.roundLoop n s = repeatTimes (16 - s.IDX.toNat) State.wstepEffect s ∧
      (State.roundLoop n s).IDX = 0#4 ∧ (State.roundLoop n s).RND = s.RND + 1#5 := by
  induction n generalizing s with
  | zero => omega
  | succ n ih =>
    rw [State.roundLoop]
    by_cases hlast : s.IDX = 15#4
    · have hwrap : s.wstepEffect.IDX = 0#4 := by rw [State.wstepEffect_IDX, hlast]; rfl
      rw [if_pos hwrap, hlast]
      exact ⟨rfl, hwrap, by rw [State.wstepEffect_RND, if_pos hlast]⟩
    · have hnext := State.wstepEffect_IDX_toNat hlast
      have hmore : s.wstepEffect.IDX ≠ 0#4 := by bv_omega
      have hcount : 16 - s.IDX.toNat = 16 - s.wstepEffect.IDX.toNat + 1 := by omega
      obtain ⟨hloop, hidx, hrnd⟩ := ih (s := s.wstepEffect) (by omega)
      rw [if_neg hmore, hcount, repeatTimes]
      exact ⟨hloop, hidx, by rw [hrnd, State.wstepEffect_RND, if_neg hlast]⟩

/-- Settles O30, by `State.roundLoop_eq_repeatTimes`. -/
theorem roundFinishesTheRound : Obligations.RoundFinishesTheRound := by
  intro s he
  have hleft : 0 < 16 - s.IDX.toNat := by omega
  obtain ⟨hloop, hidx, hrnd⟩ := State.roundLoop_eq_repeatTimes (n := wordsPerRound) (s := s.clearDone) (Nat.sub_le _ _)
  refine ⟨s.clearDone.roundEffect, accept_of_none he State.roundEffect, ?_, hidx, hrnd, ?_, fun a => ?_⟩
  · rw [execAll_replicate_wstep he hleft, State.roundEffect, hloop, State.clearDone_IDX]
  · apply State.eq_of_unmixed <;> simp
  · simp

/-! The permutation (R132, R135). -/

/-- The 512th word-step moves `SEQ` back to (0, 0) (10_state.md R30). -/
theorem State.permuteEffect_SEQ (s : State) : s.permuteEffect.RND = 0#5 ∧ s.permuteEffect.IDX = 0#4 := by
  obtain ⟨-, hidx, hrnd⟩ := repeatTimes_wstepEffect_rounds (s := s.withSEQ 0#5 0#4) rfl rfl rounds (Nat.le_refl _)
  exact ⟨hrnd, hidx⟩

/-- Settles O31: the loops by `State.permuteEffect_mixed`, the 512 commands by `execAll_replicate_wstep`. -/
theorem permuteIsTheNestedLoops : Obligations.PermuteIsTheNestedLoops := by
  intro s he
  obtain ⟨hrnd, hidx⟩ := s.clearDone.permuteEffect_SEQ
  refine ⟨s.clearDone.permuteEffect, accept_of_none he State.permuteEffect, s.clearDone.permuteEffect_mixed, hrnd, hidx,
    ?_, fun a => ?_, ?_⟩
  · rw [← hrnd, ← hidx]
    apply State.eq_of_unmixed <;> simp
  · simp
  · exact execAll_replicate_wstep (s := s.withSEQ 0#5 0#4) he (by decide)

end Sys2Proof.Machine

/-! PROOF. The Absorber (45_absorber_hash.md R145, R147): the state byte by byte after a block was absorbed, and the
same block absorbed twice. Settles O21. -/

namespace Sys2Proof.Machine

theorem getElem_absorbBlock (S : Vector Byte 128) (B : Vector Byte 64) {k : Nat} (hk : k < 128) :
    (absorbBlock S B)[k] = if h : k < 64 then S[k] ^^^ B[k] else S[k] :=
  Vector.getElem_ofFn hk

theorem getElem_absorbBlock_low (S : Vector Byte 128) (B : Vector Byte 64) {k : Nat} (hk : k < 64) :
    (absorbBlock S B)[k] = S[k] ^^^ B[k] := by
  rw [getElem_absorbBlock, dif_pos hk]

theorem getElem_absorbBlock_high (S : Vector Byte 128) (B : Vector Byte 64) {k : Nat} (h1 : 64 ≤ k) (h2 : k < 128) :
    (absorbBlock S B)[k] = S[k] := by
  rw [getElem_absorbBlock, dif_neg h1.not_gt]

/-- Absorbing is its own inverse: XOR with the same byte twice cancels. -/
theorem absorbBlock_absorbBlock (S : Vector Byte 128) (B : Vector Byte 64) :
    absorbBlock (absorbBlock S B) B = S := by
  ext1 k hk
  by_cases hlow : k < 64
  · rw [getElem_absorbBlock_low _ _ hlow, getElem_absorbBlock_low _ _ hlow, BitVec.xor_assoc, BitVec.xor_self,
      BitVec.xor_zero]
  · have hhigh := Nat.le_of_not_lt hlow
    rw [getElem_absorbBlock_high _ _ hhigh hk, getElem_absorbBlock_high _ _ hhigh hk]

theorem exec_absorb {s : State} (he : s.ERR = .none) : exec .absorb s = .next s.clearDone.absorbEffect :=
  accept_of_none he State.absorbEffect

/-- Settles O21: the bytes by the two halves of `absorbBlock`, the second ABSORB by `absorbBlock_absorbBlock`. -/
theorem absorbXorsTheBlock : Obligations.AbsorbXorsTheBlock := by
  intro s he
  have hsecond := exec_absorb (s := s.clearDone.absorbEffect) (by simpa using he)
  refine ⟨_, _, exec_absorb he, fun k hk => getElem_absorbBlock_low s.S s.BLK hk,
    fun k h1 h2 => getElem_absorbBlock_high s.S s.BLK h1 h2, rfl, fun a => by simp, hsecond, ?_⟩
  simp only [State.absorbEffect_S, State.absorbEffect_BLK, State.clearDone_S, State.clearDone_BLK,
    absorbBlock_absorbBlock]

end Sys2Proof.Machine

/-! PROOF. The end state of HASH, register by register (45_absorber_hash.md R146, R148), and what it and INIT depend on
(R149). Settles O33 and O35. -/

namespace Sys2Proof.Machine

/-! One repetition of the loop of HASH. -/

theorem State.hashBlock_BLK (s : State) :
    s.hashBlock.BLK = padBlock s.readMsg s.LEN.toNat s.BLKIDX.toNat := by
  rw [State.hashBlock, State.permuteEffect_BLK, State.absorbEffect_BLK, State.padEffect_BLK]

theorem State.hashBlock_RC (s : State) :
    s.hashBlock.RC =
      (permuteWithConstant s.params (absorbBlock s.S (padBlock s.readMsg s.LEN.toNat s.BLKIDX.toNat))).2 := by
  have hmixed := s.padEffect.absorbEffect.permuteEffect_mixed
  rw [State.absorbEffect_params, State.padEffect_params, State.absorbEffect_S, State.padEffect_S,
    State.padEffect_BLK] at hmixed
  rw [← hmixed, State.hashBlock, State.mixed]

theorem State.hashBlock_SEQ (s : State) : s.hashBlock.RND = 0#5 ∧ s.hashBlock.IDX = 0#4 :=
  s.padEffect.absorbEffect.permuteEffect_SEQ

/-! INIT and the first `n` blocks. -/

/-- The state after INIT and `n` repetitions of the loop of HASH (R148). -/
def State.afterBlocks (s : State) (n : Nat) : State := repeatTimes n State.hashBlock s.initEffect

theorem State.afterBlocks_zero (s : State) : s.afterBlocks 0 = s.initEffect := (rfl)

theorem State.afterBlocks_succ (s : State) (n : Nat) : s.afterBlocks (n + 1) = (s.afterBlocks n).hashBlock :=
  repeatTimes_succ n _ _

theorem State.hashEffect_eq_afterBlocks (s : State) : s.hashEffect = (s.afterBlocks (nblk s.LEN.toNat)).setDone := (rfl)

@[simp] theorem State.afterBlocks_LEN (s : State) (n : Nat) : (s.afterBlocks n).LEN = s.LEN := by
  rw [State.afterBlocks, repeatTimes_proj State.LEN _ State.hashBlock_LEN, State.initEffect_LEN]
@[simp] theorem State.afterBlocks_DONE (s : State) (n : Nat) : (s.afterBlocks n).DONE = s.DONE := by
  rw [State.afterBlocks, repeatTimes_proj State.DONE _ State.hashBlock_DONE, State.initEffect_DONE]
@[simp] theorem State.afterBlocks_ERR (s : State) (n : Nat) : (s.afterBlocks n).ERR = s.ERR := by
  rw [State.afterBlocks, repeatTimes_proj State.ERR _ State.hashBlock_ERR, State.initEffect_ERR]
@[simp] theorem State.afterBlocks_params (s : State) (n : Nat) : (s.afterBlocks n).params = s.params := by
  rw [State.afterBlocks, repeatTimes_proj State.params _ State.hashBlock_params, State.initEffect_params]
@[simp] theorem State.afterBlocks_readMsg (s : State) (n : Nat) : (s.afterBlocks n).readMsg = s.readMsg := by
  rw [State.afterBlocks, repeatTimes_proj State.readMsg _ State.hashBlock_readMsg, State.initEffect_readMsg]

/-- The block index counts the blocks absorbed; within the message it does not wrap. -/
theorem State.afterBlocks_BLKIDX_toNat (s : State) {n : Nat} (hn : n ≤ nblk s.LEN.toNat) :
    (s.afterBlocks n).BLKIDX.toNat = n := by
  have hnblk := nblk_lt s.LEN
  rw [State.afterBlocks, (repeatTimes_hashBlock s n hn).2, BitVec.toNat_ofNat, Nat.mod_eq_of_lt (by omega)]

theorem State.afterBlocks_S (s : State) {n : Nat} (hn : n ≤ nblk s.LEN.toNat) :
    (s.afterBlocks n).S = absorbBlocks s.params s.readMsg s.LEN.toNat n :=
  (repeatTimes_hashBlock s n hn).1

/-! HASH. -/

/-- HASH ends with the repetition for block `LEN / 64`, the last one (10_state.md R38). -/
theorem State.hashEffect_eq_lastBlock (s : State) :
    s.hashEffect = (s.afterBlocks (s.LEN.toNat / 64)).hashBlock.setDone := by
  rw [State.hashEffect_eq_afterBlocks, nblk, State.afterBlocks_succ]

theorem State.hashEffect_BLK (s : State) :
    s.hashEffect.BLK = padBlock s.readMsg s.LEN.toNat (s.LEN.toNat / 64) := by
  rw [State.hashEffect_eq_lastBlock, State.setDone_BLK, State.hashBlock_BLK, State.afterBlocks_readMsg,
    State.afterBlocks_LEN, State.afterBlocks_BLKIDX_toNat s (Nat.le_succ _)]

theorem State.hashEffect_BLKIDX_toNat (s : State) : s.hashEffect.BLKIDX.toNat = s.LEN.toNat / 64 + 1 :=
  s.afterBlocks_BLKIDX_toNat (Nat.le_refl _)

theorem State.hashEffect_SEQ (s : State) : s.hashEffect.RND = 0#5 ∧ s.hashEffect.IDX = 0#4 := by
  rw [State.hashEffect_eq_lastBlock, State.setDone_RND, State.setDone_IDX]
  exact State.hashBlock_SEQ _

theorem State.hashEffect_RC (s : State) :
    s.hashEffect.RC = (permuteWithConstant s.params (absorbBlock
      (absorbBlocks s.params s.readMsg s.LEN.toNat (s.LEN.toNat / 64))
      (padBlock s.readMsg s.LEN.toNat (s.LEN.toNat / 64)))).2 := by
  rw [State.hashEffect_eq_lastBlock, State.setDone_RC, State.hashBlock_RC, State.afterBlocks_params,
    State.afterBlocks_readMsg, State.afterBlocks_LEN, State.afterBlocks_BLKIDX_toNat s (Nat.le_succ _),
    State.afterBlocks_S s (Nat.le_succ _)]

theorem State.hashEffect_frame (s : State) :
    s.hashEffect = { s with S := s.hashEffect.S, BLK := s.hashEffect.BLK, BLKIDX := s.hashEffect.BLKIDX, RND := 0#5,
                            IDX := 0#4, RC := s.hashEffect.RC, DONE := true } := by
  obtain ⟨hrnd, hidx⟩ := s.hashEffect_SEQ
  rw [← hrnd, ← hidx, ← s.hashEffect_LEN, ← s.hashEffect_X, ← s.hashEffect_DONE, ← s.hashEffect_ERR, ← s.hashEffect_MSG,
    ← s.hashEffect_msgDraw, ← s.hashEffect_params, ← s.hashEffect_host, ← s.hashEffect_responses]

theorem exec_hash {s : State} (he : s.ERR = .none) (hL : s.LEN ≠ 0#64) (hM : s.LEN.toNat ≤ s.params.msgBytes) :
    exec .hash s = .next s.clearDone.hashEffect :=
  accept_initFault he hL hM _

/-- Settles O33: each register of the end state has its lemma about the effect of HASH. -/
theorem hashComputesTheDigest : Obligations.HashComputesTheDigest := by
  rintro s L rfl he hL hM
  obtain ⟨hrnd, hidx⟩ := s.clearDone.hashEffect_SEQ
  refine ⟨_, exec_hash he hL hM, s.clearDone.hashEffect_S, fun k hk => ?_, fun j hj => ?_,
    s.clearDone.hashEffect_BLKIDX_toNat, hrnd, hidx, s.clearDone.hashEffect_RC, s.clearDone.hashEffect_DONE,
    s.clearDone.hashEffect_frame, fun a => by simp⟩
  · simp only [State.hashEffect_S]
    exact digestOf_getElem _ k hk
  · simp only [State.hashEffect_BLK]
    exact getElem_padBlock s.readMsg s.LEN.toNat (s.LEN.toNat / 64) hj

/-! What the end state depends on (R149). -/

theorem absorbBlocks_congr (p : Params) {M M' : Nat → Byte} {L : Nat} (hL : 0 < L) (h : ∀ a, a < L → M' a = M a)
    (n : Nat) : absorbBlocks p M' L n = absorbBlocks p M L n := by
  simp only [absorbBlocks, initializeState_congr p.caEdge hL h, padBlock_congr h]

theorem hashState_congr (p : Params) {M M' : Nat → Byte} {L : Nat} (hL : 0 < L) (h : ∀ a, a < L → M' a = M a) :
    hashState p M' L = hashState p M L :=
  absorbBlocks_congr p hL h (nblk L)

theorem State.initEffect_BLKIDX (s : State) : s.initEffect.BLKIDX = 0#64 := (rfl)

theorem State.initEffect_SEQ (s : State) : s.initEffect.RND = 0#5 ∧ s.initEffect.IDX = 0#4 := ⟨(rfl), (rfl)⟩

section
variable {s s' : State}

/-- Two states whose message bytes agree below their common `LEN` get equal registers from HASH. -/
theorem State.hashEffect_congr (hlen : s'.LEN = s.LEN) (hparams : s'.params = s.params) (hL : s.LEN ≠ 0#64)
    (hread : ∀ a, a < s.LEN.toNat → s'.readMsg a = s.readMsg a) :
    s'.hashEffect.S = s.hashEffect.S ∧ s'.hashEffect.BLK = s.hashEffect.BLK ∧
      s'.hashEffect.BLKIDX = s.hashEffect.BLKIDX ∧ s'.hashEffect.RC = s.hashEffect.RC := by
  have hpos := toNat_pos_of_ne_zero hL
  refine ⟨?_, ?_, BitVec.eq_of_toNat_eq ?_, ?_⟩
  · rw [State.hashEffect_S, State.hashEffect_S, hlen, hparams, hashState_congr _ hpos hread]
  · rw [State.hashEffect_BLK, State.hashEffect_BLK, hlen, padBlock_congr hread]
  · rw [State.hashEffect_BLKIDX_toNat, State.hashEffect_BLKIDX_toNat, hlen]
  · rw [State.hashEffect_RC, State.hashEffect_RC, hlen, hparams, absorbBlocks_congr _ hpos hread, padBlock_congr hread]

theorem State.initEffect_S_congr (hlen : s'.LEN = s.LEN) (hparams : s'.params = s.params) (hL : s.LEN ≠ 0#64)
    (hread : ∀ a, a < s.LEN.toNat → s'.readMsg a = s.readMsg a) : s'.initEffect.S = s.initEffect.S := by
  rw [State.initEffect_S, State.initEffect_S, hlen, hparams, seedState_congr (toNat_pos_of_ne_zero hL) hread]

end

/-- Settles O35: the registers that hold something of the message by the two congruences, the others are fixed. -/
theorem hashAndInitIgnoreHistory : Obligations.HashAndInitIgnoreHistory := by
  intro s s' he he' hlen hparams hL hM hread
  have hL' : s'.LEN ≠ 0#64 := hlen ▸ hL
  have hM' : s'.LEN.toNat ≤ s'.params.msgBytes := by rwa [hlen, hparams]
  refine ⟨⟨_, _, exec_hash he hL hM, exec_hash he' hL' hM', ?_⟩, ⟨_, _, exec_init he hL hM, exec_init he' hL' hM', ?_⟩⟩
  · obtain ⟨hS, hBLK, hBLKIDX, hRC⟩ :=
      State.hashEffect_congr (s := s.clearDone) (s' := s'.clearDone) hlen hparams hL hread
    obtain ⟨hrnd, hidx⟩ := s.clearDone.hashEffect_SEQ
    obtain ⟨hrnd', hidx'⟩ := s'.clearDone.hashEffect_SEQ
    exact ⟨hS, hBLK, hBLKIDX, hrnd'.trans hrnd.symm, hidx'.trans hidx.symm, hRC, by simp, by simp [he, he']⟩
  · obtain ⟨hrnd, hidx⟩ := s.clearDone.initEffect_SEQ
    obtain ⟨hrnd', hidx'⟩ := s'.clearDone.initEffect_SEQ
    exact ⟨State.initEffect_S_congr (s := s.clearDone) (s' := s'.clearDone) hlen hparams hL hread,
      s'.clearDone.initEffect_BLKIDX.trans s.clearDone.initEffect_BLKIDX.symm, hrnd'.trans hrnd.symm,
      hidx'.trans hidx.symm⟩

end Sys2Proof.Machine

/-! PROOF. The stages of the hash as commands of their own (45_absorber_hash.md R150): settles O34. -/

namespace Sys2Proof.Machine

open Sys2Proof.Claims

theorem execAll_append {is : List Instr} {s t : State} (h : execAll is s = .next t) (js : List Instr) :
    execAll (is ++ js) s = execAll js t := by
  induction is generalizing s with
  | nil =>
    rw [execAll] at h
    injection h with h
    rw [h, List.nil_append]
  | cons i is ih =>
    cases hi : exec i s with
    | next u =>
      rw [execAll_cons hi] at h
      rw [List.cons_append, execAll_cons hi, ih h]
    | fault r => cases r
    | refused r => simp [execAll, hi] at h

theorem State.clearDone_of_not_done {s : State} (hd : s.DONE = false) : s.clearDone = s :=
  congrArg s.withDONE hd.symm

/-- PADBLK, ABSORB, PERMUTE at a block of the message are one repetition of the loop of HASH. -/
theorem execAll_block {s : State} (he : s.ERR = .none) (hd : s.DONE = false) (hM : s.LEN.toNat ≤ s.params.msgBytes)
    (hb : s.BLKIDX.toNat < nblk s.LEN.toNat) : execAll [.padblk, .absorb, .permute] s = .next s.hashBlock := by
  have hpad : exec .padblk s = .next s.padEffect := by
    rw [exec_padblk_ok he hM hb, State.clearDone_of_not_done hd]
  have habsorb : exec .absorb s.padEffect = .next s.padEffect.absorbEffect := by
    rw [exec_absorb (by simpa using he), State.clearDone_of_not_done (by simpa using hd)]
  have hpermute : exec .permute s.padEffect.absorbEffect = .next s.hashBlock := by
    have haccept := accept_of_none (s := s.padEffect.absorbEffect) (by simpa using he) State.permuteEffect
    rwa [State.clearDone_of_not_done (by simpa using hd)] at haccept
  rw [execAll_cons hpad, execAll_cons habsorb, execAll_cons hpermute, execAll]

/-- INIT and the commands of the first `n` blocks. -/
theorem execAll_staged {s : State} (he : s.ERR = .none) (hL : s.LEN ≠ 0#64) (hM : s.LEN.toNat ≤ s.params.msgBytes)
    {n : Nat} (hn : n ≤ nblk s.LEN.toNat) :
    execAll (.init :: (List.replicate n [Instr.padblk, .absorb, .permute]).flatten) s =
      .next (s.clearDone.afterBlocks n) := by
  induction n with
  | zero => exact execAll_cons (exec_init he hL hM)
  | succ n ih =>
    have hidx : (s.clearDone.afterBlocks n).BLKIDX.toNat = n :=
      s.clearDone.afterBlocks_BLKIDX_toNat (Nat.le_of_succ_le hn)
    rw [List.replicate_succ', List.flatten_concat, ← List.cons_append, execAll_append (ih (Nat.le_of_succ_le hn)),
      execAll_block (by simpa using he) (by simp) (by simpa using hM) (by simpa [hidx] using hn),
      State.afterBlocks_succ]

/-- From the start of a round ROUND is its 16 word-steps (R134). -/
theorem State.roundEffect_of_IDX_zero {s : State} (hidx : s.IDX = 0#4) :
    s.roundEffect = repeatTimes wordsPerRound State.wstepEffect s := by
  obtain ⟨hloop, -, -⟩ := State.roundLoop_eq_repeatTimes (n := wordsPerRound) (s := s) (Nat.sub_le _ _)
  rw [State.roundEffect, hloop, hidx]
  rfl

/-- Whole rounds are their word-steps in a row: each ends where the next one starts. -/
theorem repeatTimes_roundEffect {s : State} (hidx : s.IDX = 0#4) (n : Nat) :
    repeatTimes n State.roundEffect s = repeatTimes (n * wordsPerRound) State.wstepEffect s := by
  induction n generalizing s with
  | zero => rfl
  | succ n ih =>
    have hround := State.roundEffect_of_IDX_zero hidx
    have hnext : s.roundEffect.IDX = 0#4 := hround ▸ (repeatTimes_wstepEffect hidx 16 (Nat.le_refl _)).2.1
    rw [repeatTimes, ih hnext, hround, ← repeatTimes_add, Nat.succ_mul, Nat.add_comm]

theorem State.withSEQ_self {s : State} {r : BitVec 5} {i : BitVec 4} (hrnd : s.RND = r) (hidx : s.IDX = i) :
    s.withSEQ r i = s := by
  rw [← hrnd, ← hidx]
  rfl

/-- Settles O34: the blocks by `execAll_staged`, INIT by `initIsSeedThenSixtyFourSteps`, the rounds by
`repeatTimes_roundEffect`, one round by `roundFinishesTheRound`. -/
theorem stagedExecutionEqualsHash : Obligations.StagedExecutionEqualsHash := by
  refine ⟨fun s he hL hM => ⟨?_, ?_⟩, fun s hrnd hidx he => ?_, fun s hidx he => ?_⟩
  · exact ⟨_, execAll_staged he hL hM (Nat.le_refl _), by simp, exec_hash he hL hM⟩
  · obtain ⟨u, v, t, hseed, hcastep, hinit, ht, -, -⟩ := initIsSeedThenSixtyFourSteps s he hL hM
    refine ⟨v, t, ?_, hinit, ?_⟩
    · rw [execAll_cons hseed, execAll_cons hcastep, execAll]
    · rw [ht]
      exact ⟨rfl, rfl, rfl, rfl⟩
  · have hpermute : exec .permute s = .next s.clearDone.permuteEffect := accept_of_none he State.permuteEffect
    rw [hpermute, State.permuteEffect, State.withSEQ_self (s := s.clearDone) hrnd hidx,
      ← repeatTimes_roundEffect (s := s.clearDone) hidx]
    exact execAll_replicate (fun _ => rfl) State.roundEffect_ERR State.roundEffect_DONE he (by decide)
  · obtain ⟨t, hround, hwsteps, -⟩ := roundFinishesTheRound s he
    rw [hidx] at hwsteps
    exact hwsteps.trans hround.symm

end Sys2Proof.Machine

/-! PROOF. The host's procedure (70_reset_and_hazards.md R182): the message, HASH, then a run of reads. Settles O55. -/

namespace Sys2Proof.Machine

open Sys2Proof.Claims

theorem Params.msgBytes_le {p : Params} (h : p.wf = true) : p.msgBytes ≤ 2 ^ 32 := by
  simp only [Params.wf, Bool.and_eq_true, decide_eq_true_eq] at h
  exact h.2

/-- The `cmd` statement of a command (30_encoding.md R77): it runs and the port answers `ok`. -/
theorem step_command {s t : State} {i : Instr} {rest : List Event} (hi : i.wellFormed = true)
    (hh : s.host = .write 0x0000 (encode i) :: rest) (ht : exec i (s.withHost rest) = .next t) :
    step s = .next (t.respond .ok) := by
  rw [step_commandWrite hh, commandWrite_of_decode (decode_encode hi), ht, thenNext]

/-! A location reads the same whatever events are to come and whatever was answered. -/

theorem State.load_withHost (s : State) (rest : List Event) (l : Loc) : (s.withHost rest).load l = s.load l := by
  cases l <;> rfl

theorem State.load_respond (s : State) (r : Response) (l : Loc) : (s.respond r).load l = s.load l := by
  cases l <;> rfl

/-- A run of reads answers what each location holds at its start, since a read changes nothing (20_memory.md R55). -/
theorem run_reads {α : Type} {addr : α → Nat} {loc : α → Loc} {s : State} {xs : List α} {rest : List Event}
    (hat : ∀ x, (loc x).At s.params.msgBytes (addr x)) (hh : s.host = xs.map (fun x => .read (addr x)) ++ rest) :
    ∃ t : State, Host.Core.run Sys2Proof.core xs.length s = .next t ∧
      t.responses = s.responses ++ xs.map (fun x => .data (s.load (loc x))) := by
  induction xs generalizing s with
  | nil => exact ⟨s, rfl, (List.append_nil _).symm⟩
  | cons x xs ih =>
    have hstep := step_load hh (hat x)
    obtain ⟨t, hrun, hresp⟩ := ih (s := (s.withHost (xs.map (fun x => .read (addr x)) ++ rest)).respond
      (.data (s.load (loc x)))) hat rfl
    refine ⟨t, (run_succ hstep _).trans hrun, ?_⟩
    rw [hresp, State.respond_responses, State.withHost_responses, List.append_assoc]
    simp only [State.load_respond, State.load_withHost]
    rfl

/-- The digest view in the lanes of the port (10_state.md R23). -/
theorem lanes_digestOf (S : Vector Byte 128) (m : Nat) (hm : 8 * m + 7 < 64) :
    lanes (digestOf S) m hm = lanes S m (by omega) := by
  simp only [lanes, digestOf_getElem]

theorem State.load_status (s : State) : s.load .status = s.statusWord := (rfl)

theorem State.load_sw (s : State) (m : Fin 16) : s.load (.sw m) = lanes s.S m.val (by omega) := (rfl)

/-- What HASH leaves for the host to read (R148): `STATUS` = 1 and the digest in `SW0` to `SW7`. -/
theorem State.hashEffect_load_status {s : State} (he : s.ERR = .none) : s.hashEffect.load .status = 1#64 := by
  rw [State.load_status, State.statusWord_eq_ofNat, State.hashEffect_ERR, he, State.hashEffect_DONE]
  rfl

theorem State.hashEffect_load_sw (s : State) (m : Fin 8) :
    s.hashEffect.load (.sw ⟨m.val, by omega⟩) =
      lanes (sihaHash s.params s.readMsg s.LEN.toNat) m.val (by omega) := by
  simp only [State.load_sw, sihaHash, lanes_digestOf, State.hashEffect_S]

/-- The reads of the host's procedure: `STATUS`, then the digest words (R182). -/
def readOut : List Event := scriptEvents [.rd .status, .digest]

theorem readOut_eq :
    readOut = .read 0x0008 :: ((List.finRange 8).map (fun m => .read (0x0080 + 8 * m.val)) ++ []) := rfl

theorem run_readOut {s : State} (hh : s.host = readOut) :
    ∃ t : State, Host.Core.run Sys2Proof.core readOut.length s = .next t ∧
      t.responses = s.responses ++ [.data (s.load .status)] ++
        (List.finRange 8).map (fun m => .data (s.load (.sw ⟨m.val, by omega⟩))) := by
  rw [readOut_eq] at hh
  have hstatus := step_load (l := .status) hh rfl
  obtain ⟨t, hrun, hresp⟩ := run_reads (addr := fun m : Fin 8 => 0x0080 + 8 * m.val)
    (loc := fun m => .sw ⟨m.val, by omega⟩)
    (s := (s.withHost ((List.finRange 8).map (fun m => .read (0x0080 + 8 * m.val)) ++ [])).respond
      (.data (s.load .status)))
    (fun _ => rfl) rfl
  refine ⟨t, (run_succ hstatus 8).trans hrun, ?_⟩
  rw [hresp, State.respond_responses, State.withHost_responses]
  simp only [State.load_respond, State.load_withHost]

/-- The host's procedure once the message is loaded: HASH answers `ok`, `STATUS` reads 1 and `SW0` to `SW7` the
digest (R148, R182). -/
theorem run_hash_readOut {s : State} (he : s.ERR = .none) (hL : s.LEN ≠ 0#64) (hM : s.LEN.toNat ≤ s.params.msgBytes)
    (hh : s.host = .write 0x0000 (encode .hash) :: readOut) :
    ∃ t : State, Host.Core.run Sys2Proof.core (readOut.length + 1) s = .next t ∧
      t.responses = s.responses ++ [.ok] ++ [.data 1#64] ++ (List.finRange 8).map (fun m =>
        .data (lanes (sihaHash s.params s.readMsg s.LEN.toNat) m.val (by omega))) := by
  have hhash := step_command rfl hh (exec_hash (s := s.withHost readOut) he hL hM)
  obtain ⟨t, hrun, hresp⟩ := run_readOut (s := (s.withHost readOut).clearDone.hashEffect.respond .ok)
    (State.hashEffect_host _)
  refine ⟨t, (run_succ hhash _).trans hrun, ?_⟩
  simp only [hresp, State.load_respond, State.hashEffect_load_sw, State.respond_responses, State.hashEffect_responses,
    State.hashEffect_load_status (s := (s.withHost readOut).clearDone) he]
  rfl

/-- Settles O55: the message by `msgScriptLoadsTheMessage`, the rest by `run_hash_readOut`. -/
theorem hostProcedureReadsTheDigest : Obligations.HostProcedureReadsTheDigest := by
  rintro s bs evs hp he hpos hle rfl hh
  obtain ⟨v, hload, hlen, hread, -, hframe⟩ :=
    msgScriptLoadsTheMessage s bs (.write 0x0000 (encode .hash) :: readOut) hp hle hh
  have hERR : v.ERR = s.ERR := (congrArg State.ERR hframe :)
  have hparams : v.params = s.params := (congrArg State.params hframe :)
  have hhost : v.host = .write 0x0000 (encode .hash) :: readOut := (congrArg State.host hframe :)
  have hresponses : v.responses = s.responses ++ List.replicate (Stmt.msg bs).events.length .ok :=
    (congrArg State.responses hframe :)
  have hlenNat : v.LEN.toNat = bs.length := by
    have hmax := Params.msgBytes_le hp
    rw [hlen, BitVec.toNat_ofNat, Nat.mod_eq_of_lt (by omega)]
  have hL : v.LEN ≠ 0#64 := by
    rintro h0
    rw [h0, BitVec.toNat_ofNat] at hlenNat
    omega
  obtain ⟨t, hrun, hresp⟩ := run_hash_readOut (hERR.trans he) hL (by rwa [hlenNat, hparams]) hhost
  have hdigest : sihaHash v.params v.readMsg v.LEN.toNat = sihaHash s.params (bytesOf bs) bs.length := by
    rw [hparams, hlenNat, sihaHash, sihaHash, hashState_congr _ hpos hread]
  have hwrites : (Stmt.msg bs).events.length = (bs.length + 7) / 8 + 1 := by
    rw [Stmt.msg_events, List.length_append, messageWrites_length, List.length_singleton]
  have hsplit : scriptEvents [.msg bs, .cmd .hash, .rd .status, .digest] =
      (Stmt.msg bs).events ++ .write 0x0000 (encode .hash) :: readOut := rfl
  refine ⟨t, ?_, ?_⟩
  · rw [hsplit, List.length_append, List.length_cons]
    exact (run_add hload _).trans hrun
  · rw [hresp, hdigest, hresponses, hwrites, List.append_assoc _ _ [Response.ok], ← List.replicate_succ']

end Sys2Proof.Machine

/-! PROOF. The control commands (46_control.md R155, R156): NOP and its word, CLEAR and its word, and the state CLEAR
leaves beside the reset state. Settles O9 and O10. -/

namespace Sys2Proof.Machine

open Sys2Proof.Claims

theorem exec_nop (s : State) : exec .nop s = .next s := exec_eq .nop s

theorem exec_clear (s : State) : exec .clear s = .next s.clearRegisters := exec_eq .clear s

theorem decode_eq_clear_iff {d : Word} : decode d = .ok .clear ↔ d = 0x0000000001000000#64 :=
  decode_eq_ok_iff.trans ((and_iff_right rfl).trans eq_comm)

/-- A legal value with NOP's `op` has `imm8 = 0`: NOP is of format Z (30_encoding.md R71, R73). -/
theorem imm8_eq_zero_of_legal_of_op_zero {d : Word} (h : legal d) (hop : d.extractLsb' 24 8 = 0#8) :
    d.extractLsb' 0 8 = 0#8 := by
  obtain ⟨-, -, -, himm | hcastep⟩ := h
  · exact himm
  · exact absurd (hop.symm.trans hcastep) (by decide)

/-- Settles O9: NOP's arm of `exec`, its word by `decode_eq_nop_iff`, and the value 1 by its `imm8`. -/
theorem nopChangesNothing : Obligations.NopChangesNothing := by
  refine ⟨exec_nop, fun _ => decode_eq_nop_iff, fun hlegal => ?_⟩
  have himm : (1#64).extractLsb' 0 8 = 0#8 := imm8_eq_zero_of_legal_of_op_zero hlegal (by decide)
  exact absurd himm (by decide)

/-- The registers after CLEAR are those after reset (10_state.md R41); what is no register is kept. -/
theorem State.clearRegisters_eq_reset (s : State) :
    s.clearRegisters = { State.reset with MSG := s.MSG, msgDraw := s.msgDraw, params := s.params, host := s.host,
                                          responses := s.responses } := (rfl)

/-- Settles O10: CLEAR answers `clearRegisters`, whose fields its own lemmas give; its word by `decode_eq_clear_iff`. -/
theorem clearResetsEveryRegister : Obligations.ClearResetsEveryRegister := by
  refine ⟨fun s => ⟨s.clearRegisters, exec_clear s, ?_⟩, fun _ => decode_eq_clear_iff⟩
  exact ⟨fun k hk => Vector.getElem_replicate hk, fun j hj => Vector.getElem_replicate hj, s.clearRegisters_LEN,
    s.clearRegisters_BLKIDX, s.clearRegisters_RND, s.clearRegisters_IDX, s.clearRegisters_RC, s.clearRegisters_X,
    s.clearRegisters_DONE, s.clearRegisters_ERR, s.clearRegisters_eq_reset,
    fun a => congrFun s.clearRegisters_readMsg a⟩

end Sys2Proof.Machine

/-! PROOF. The faults (60_exceptions.md R160 to R164): which check raises which code, that a fault is the only thing a
faulting command does, and that a pending fault makes the engine ignore everything but CLEAR. Settles O8, O12 and
O40. -/

namespace Sys2Proof.Machine

/-! The codes the checks answer, in the order of R164. -/

theorem initFault_eq_some {s : State} {e : ErrCode} :
    s.initFault = some e ↔ (e = .emptyInput ∧ s.LEN = 0#64) ∨
      (e = .lengthRange ∧ s.LEN ≠ 0#64 ∧ s.params.msgBytes < s.LEN.toNat) := by
  unfold State.initFault
  by_cases hL : s.LEN = 0#64
  · simp [hL, eq_comm]
  · by_cases hM : s.params.msgBytes < s.LEN.toNat <;> simp [hL, hM, eq_comm]

theorem padFault_eq_some {s : State} {e : ErrCode} :
    s.padFault = some e ↔ (e = .lengthRange ∧ s.params.msgBytes < s.LEN.toNat) ∨
      (e = .blockRange ∧ s.LEN.toNat ≤ s.params.msgBytes ∧ nblk s.LEN.toNat ≤ s.BLKIDX.toNat) := by
  unfold State.padFault
  by_cases hM : s.params.msgBytes < s.LEN.toNat
  · simp [hM, hM.not_ge, eq_comm]
  · by_cases hb : nblk s.LEN.toNat ≤ s.BLKIDX.toNat <;> simp [hM, hb, Nat.le_of_not_lt hM, eq_comm]

/-! The commands that check, and what a failed check makes of them (R161). -/

/-- The check a command makes before its first write (R160, R161): the length for SEED, INIT and HASH, the length and
the block index for PADBLK; no other command faults. -/
def faultOf (i : Instr) (s : State) : Option ErrCode :=
  match i with
  | .seed | .init | .hash => s.initFault
  | .padblk => s.padFault
  | .nop | .clear | .castep _ | .absorb | .rcgen | .sbox | .wstep | .round | .permute => none

/-- The check does not look at `DONE`, so it may be made on either side of the dispatch's `DONE <- 0` (R75). -/
theorem faultOf_clearDone (i : Instr) (s : State) : faultOf i s.clearDone = faultOf i s := by
  cases i <;> rfl

theorem guarded_of_some {s : State} {f : Option ErrCode} {e : ErrCode} (h : f = some e) (effect : State → State) :
    s.guarded f effect = s.raiseFault e := by
  rw [h, State.guarded]

theorem guarded_of_none {s : State} {f : Option ErrCode} (h : f = none) (effect : State → State) :
    s.guarded f effect = effect s := by
  rw [h, State.guarded]

/-- A command whose check answers a code raises that code and does nothing else. -/
theorem effectOf_of_faultOf {i : Instr} {s : State} {e : ErrCode} (h : faultOf i s = some e) :
    effectOf i s = s.raiseFault e := by
  cases i with
  | seed | init | padblk | hash => exact guarded_of_some h _
  | _ => cases h

/-- A command whose check passes leaves no fault pending where none was. -/
theorem effectOf_ERR_of_faultOf_none {i : Instr} {s : State} (he : s.ERR = .none) (h : faultOf i s = none) :
    (effectOf i s).ERR = .none := by
  cases i with
  | seed | init | padblk | hash =>
    rw [faultOf] at h
    rw [effectOf, guarded_of_none h]
    simp [he]
  | _ => simp [effectOf, he]

/-- NOP and CLEAR apart, every command goes through the acceptance of R75. -/
theorem exec_eq_accept {i : Instr} (hnop : i ≠ .nop) (hclear : i ≠ .clear) (s : State) :
    exec i s = accept s (effectOf i) := by
  cases i with
  | nop => exact absurd rfl hnop
  | clear => exact absurd rfl hclear
  | _ => exact exec_eq _ s

theorem exec_of_faultOf {i : Instr} {s : State} {e : ErrCode} (he : s.ERR = .none) (h : faultOf i s = some e) :
    exec i s = .next { s with ERR := e, DONE := false } := by
  have heffect : effectOf i s.clearDone = s.clearDone.raiseFault e :=
    effectOf_of_faultOf ((faultOf_clearDone i s).trans h)
  have hnop : i ≠ .nop := by
    rintro rfl
    cases h
  have hclear : i ≠ .clear := by
    rintro rfl
    cases h
  rw [exec_eq_accept hnop hclear, accept_of_none he, heffect]
  rfl

/-- The code a command leaves where no fault was pending is the answer of its check. -/
theorem faultOf_of_exec {i : Instr} {s t : State} (he : s.ERR = .none) (h : exec i s = .next t)
    (ht : t.ERR ≠ .none) : faultOf i s = some t.ERR := by
  cases hf : faultOf i s with
  | some e =>
    rw [exec_of_faultOf he hf] at h
    injection h with h
    rw [← h]
  | none =>
    rcases exec_next h with ⟨-, rfl⟩ | ⟨-, rfl⟩ | ⟨-, -, hpending, -⟩ | ⟨-, -, -, rfl⟩
    · exact absurd he ht
    · exact absurd rfl ht
    · exact absurd he hpending
    · exact absurd (effectOf_ERR_of_faultOf_none (s := s.clearDone) he ((faultOf_clearDone i s).trans hf)) ht

/-- The codes with their commands and causes, as the table of R160 lists them. -/
theorem faultOf_eq_some {i : Instr} {s : State} {e : ErrCode} (h : faultOf i s = some e) :
    (e = .emptyInput ∧ s.LEN = 0#64 ∧ (i = .seed ∨ i = .init ∨ i = .hash)) ∨
      (e = .lengthRange ∧ s.params.msgBytes < s.LEN.toNat ∧ (i = .seed ∨ i = .init ∨ i = .padblk ∨ i = .hash)) ∨
      (e = .blockRange ∧ s.LEN.toNat ≤ s.params.msgBytes ∧ nblk s.LEN.toNat ≤ s.BLKIDX.toNat ∧ i = .padblk) := by
  cases i with
  | seed | init | hash =>
    rcases initFault_eq_some.1 h with ⟨rfl, hL⟩ | ⟨rfl, -, hM⟩
    · exact .inl ⟨rfl, hL, by decide⟩
    · exact .inr (.inl ⟨rfl, hM, by decide⟩)
  | padblk =>
    rcases padFault_eq_some.1 h with ⟨rfl, hM⟩ | ⟨rfl, hM, hb⟩
    · exact .inr (.inl ⟨rfl, hM, by decide⟩)
    · exact .inr (.inr ⟨rfl, hM, hb, rfl⟩)
  | _ => cases h

/-- SEED, INIT and HASH make the same check. -/
theorem faultOf_initializer {i : Instr} (hi : i = .seed ∨ i = .init ∨ i = .hash) (s : State) :
    faultOf i s = s.initFault := by
  rcases hi with rfl | rfl | rfl <;> rfl

/-! A pending fault (R162). -/

theorem exec_of_pending {i : Instr} (hi : i ≠ .clear) {s : State} (he : s.ERR ≠ .none) : exec i s = .next s := by
  by_cases hnop : i = .nop
  · rw [hnop, exec_nop]
  · rw [exec_eq_accept hnop hi, accept_of_pending he]

theorem commandWrite_ignored {d : Word} (hd : d ≠ 0x0000000001000000#64) {s : State} (he : s.ERR ≠ .none) :
    commandWrite d s = .next s := by
  obtain ⟨t, ht⟩ := commandWrite_next d s
  rcases commandWrite_of_pending he ht with rfl | ⟨hclear, -⟩
  · exact ht
  · exact absurd hclear hd

/-! The statements. -/

/-- Settles O12: the check of the three commands answers the code, and `exec_of_faultOf` says what that does. -/
theorem initializerLengthFaults : Obligations.InitializerLengthFaults := by
  intro s i he hi
  have hcheck := faultOf_initializer hi s
  exact ⟨fun hL => exec_of_faultOf he (hcheck.trans (initFault_eq_some.2 (.inl ⟨rfl, hL⟩))),
    fun hM hL => exec_of_faultOf he (hcheck.trans (initFault_eq_some.2 (.inr ⟨rfl, hL, hM⟩)))⟩

/-- Settles O40: the fault is precise by `exec_fault`, and its code is the answer of the command's check. -/
theorem faultsArePreciseAndListed : Obligations.FaultsArePreciseAndListed := fun _ _ _ he h ht =>
  ⟨exec_fault h he ht, faultOf_eq_some (faultOf_of_exec he h ht)⟩

/-- Settles O8: a write to `CMD` is ignored unless it is the CLEAR word, which puts `ERR` at its reset value. -/
theorem pendingFaultIgnoresCommands : Obligations.PendingFaultIgnoresCommands := by
  refine fun s he => ⟨fun d rest hh => ⟨fun hd => ?_, fun hd => ?_⟩, fun i hi => exec_of_pending hi he⟩
  · rw [step_commandWrite hh, commandWrite_ignored hd (s := s.withHost rest) he]
    rfl
  · refine ⟨(s.withHost rest).clearRegisters.respond .ok, ?_, rfl⟩
    rw [step_commandWrite hh, hd, commandWrite_clear]
    rfl

end Sys2Proof.Machine
